-- ==== Sys2Proof/Word.lean ====
section
/-! DEFINITION. The widths of the block (00_scope.md R6, decision D1): a Height value, the cooldown counter and
the clock have 32 bits; the operation port carries 8-bit codes (30_encoding.md R90). -/

namespace Sys2Proof

/-- A Height value or an operand word: `HW` = 32 bits, unsigned (R6, R10). -/
abbrev Word := BitVec 32

/-- A value of the cooldown register or of the clock: `TW` = 32 bits, unsigned (R6, R10). -/
abbrev Time := BitVec 32

/-- An operation code, or one byte of a serialised operand word (R68, R90). -/
abbrev Byte := BitVec 8

end Sys2Proof
end

