-- ==== Sys2Proof/Syntax.lean ====
section
/-! DEFINITION. The fifteen operations of 30_encoding.md R97 and the enumerations of R93 to R98. -/

namespace Sys2Proof

/-- Rotation (R17, R93). The code `0b11` is never produced and has no value here. -/
inductive Rotation where
  | none
  | cw
  | ccw
  deriving DecidableEq, Repr, Inhabited

/-- MicrostepMode, closed at these five (R94). -/
inductive MicrostepMode where
  | full
  | half
  | quarter
  | eighth
  | sixteenth
  deriving DecidableEq, Repr, Inhabited

/-- A display frame (R17, R95); `height` carries a value in millimetres. -/
inductive Frame where
  | welcome
  | calibrating
  | height (mm : Word)
  deriving DecidableEq, Repr, Inhabited

/-- An interrupt source (R98, R210). -/
inductive Source where
  | enc
  | home
  | limit
  deriving DecidableEq, Repr, Inhabited

/-- The input pins (20_memory.md R61, ports 0 to 3). -/
inductive InPin where
  | encA
  | encB
  | home
  | limit
  deriving DecidableEq, Repr, Inhabited

/-- The output lines (20_memory.md R61, ports 8 to 13). -/
inductive OutPin where
  | step
  | dir
  | enN
  | ms1
  | ms2
  | ms3
  deriving DecidableEq, Repr, Inhabited

/-- The roles an IoFault is tagged with, in the order of their codes (R96). No operation raises `limit` (R201). -/
inductive Role where
  | step
  | dir
  | enable
  | mode
  | encoderA
  | encoderB
  | home
  | limit
  deriving DecidableEq, Repr, Inhabited

/-- How a display write fails (R64, R96). -/
inductive DisplayFailure where
  | formatting
  | write
  deriving DecidableEq, Repr, Inhabited

/-- The block's own faults (R200). `config k` is the failed check number `k` of R184, 1 to 9. -/
inductive BlockFault where
  | io (role : Role)
  | display (kind : DisplayFailure)
  | config (k : BitVec 5)
  deriving DecidableEq, Repr, Inhabited

/-- The operations, one constructor for each row of spec/opcode_table.json (R97). -/
inductive Instr where
  /-- `00000000` TICK (R157). -/
  | tick
  /-- `00000001` ENC_EDGE (R158). -/
  | encEdge
  /-- `00000010` HOME_EDGE (R159). -/
  | homeEdge
  /-- `00000011` LIMIT_EDGE (R160). -/
  | limitEdge
  /-- `00010000` QD.UPDATE (R120). -/
  | qdUpdate
  /-- `00100000` SG.DISABLE (R134). -/
  | sgDisable
  /-- `00100001` SG.ENABLE (R133). -/
  | sgEnable
  /-- `0010001d` SG.ROTATE (R135): `d` is the level of the Direction line, `steps` the operand word (R92). -/
  | sgRotate (d : Bool) (steps : Word)
  /-- `00101mmm` SG.SET_MODE (R132): `m` is a MicrostepMode code, at most 4 (R94). -/
  | sgSetMode (m : BitVec 3)
  /-- `00110000` DISP.UPDATE Welcome (R195). -/
  | dispWelcome
  /-- `00110001` DISP.UPDATE Calibrating (R195). -/
  | dispCalibrating
  /-- `00110010` DISP.UPDATE Height (R195): `mm` is the operand word (R92). -/
  | dispHeight (mm : Word)
  /-- `01000000` CS.ENTER (R180). -/
  | csEnter
  /-- `01000001` CS.EXIT (R181). -/
  | csExit
  /-- `01000010` CONSTRUCT (R182). -/
  | construct
  deriving DecidableEq, Repr

end Sys2Proof
end

