-- ==== Sys2Proof/Config.lean ====
section
/-! DEFINITION. The configuration record of the block (00_scope.md R6 to R9, 10_state.md R31), what the environment
can do at one instant (00_scope.md R14), and the values the spec leaves free, as constants without a body. -/

namespace Sys2Proof

/-- `A_EDGE` (R8, CFG14): the selected, or leading, transition of phase A. -/
inductive AEdge where
  | rising
  | falling
  deriving DecidableEq, Repr, Inhabited

/-- `HOME_EDGE_SEL`, `LIMIT_EDGE_SEL` (R9, CFG17, CFG18); the code 3 is reserved and has no value here (U27). -/
inductive EdgeSel where
  | rising
  | falling
  | both
  deriving DecidableEq, Repr, Inhabited

/-- `DEB` (R7, CFG7). -/
inductive Debounce where
  | tickCounter
  | elapsedTime
  deriving DecidableEq, Repr, Inhabited

/-- `QD_POLICY` (R8, CFG15). -/
inductive QdPolicy where
  | edgeLatched
  | immediateLevel
  deriving DecidableEq, Repr, Inhabited

/-- `PW_UNIT` (R7, CFG6). -/
inductive PulseUnit where
  | ms
  | us
  deriving DecidableEq, Repr, Inhabited

/-- `ARB` (R9, R213): any pending source, or one of the six total orders on ENC, HOME, LIMIT, named by initials. -/
inductive Arb where
  | any
  | ehl
  | elh
  | hel
  | hle
  | leh
  | lhe
  deriving DecidableEq, Repr, Inhabited

/-- `MODE_TABLE` (R8, R130, CFG2): the levels for each mode, bit `i` for line MS(i+1). With `NMODE = 2` bit 2 is not
used (R132). -/
structure ModeTable where
  full : BitVec 3
  half : BitVec 3
  quarter : BitVec 3
  eighth : BitVec 3
  sixteenth : BitVec 3
  deriving DecidableEq, Repr, Inhabited

/-- The default `MODE_TABLE` for `NMODE = 3`, the table of R131. PRESUMED: R131 supplies it from general knowledge
(log 14). Unsafe for the real board. -/
def ModeTable.default3 : ModeTable where
  full := 0b000#3
  half := 0b001#3
  quarter := 0b010#3
  eighth := 0b011#3
  sixteenth := 0b111#3

/-- The configuration record `CFG` (R7 to R9), CFG0 to CFG18 of 10_state.md R31 in their order, then the two
parameters of the step relation that are no registers. `CFG19 MAXH` is written by CONSTRUCT and stands in State. -/
structure Cfg where
  /-- CFG0 `MODE`, a MicrostepMode code. -/
  mode : BitVec 3
  /-- CFG1 `NMODE`, the number of mode-select lines. -/
  nmode : BitVec 2
  /-- CFG2 `MODE_TABLE`, if one is given. -/
  modeTable : Option ModeTable
  /-- CFG3 `SPM`, steps for one millimetre. -/
  spm : Word
  /-- CFG4 `SPT`, the most steps in one TICK. -/
  spt : Word
  /-- CFG5 `MAX_MM`. -/
  maxMm : Word
  /-- CFG6 `PW`, the pulse width as a count of `PW_UNIT`; no rule reads it (R261). -/
  pw : Nat
  /-- CFG6 `PW_UNIT`; no rule reads it (R261). -/
  pwUnit : PulseUnit
  /-- CFG7 `DEB`. -/
  deb : Debounce
  /-- CFG8 `COOLDOWN`. -/
  cooldown : Time
  /-- CFG9 `INIT_TGT`. -/
  initTgt : Word
  /-- CFG10 `HOME_OFS`. -/
  homeOfs : Word
  /-- CFG11 `HOMING_STEPS`. -/
  homingSteps : Word
  /-- CFG12 `HAS_LIMIT`. -/
  hasLimit : Bool
  /-- CFG13 `LIMIT_OFS`. -/
  limitOfs : Word
  /-- CFG14 `A_EDGE`. -/
  aEdge : AEdge
  /-- CFG15 `QD_POLICY`. -/
  qdPolicy : QdPolicy
  /-- CFG16 `DIR_HOME`, the level of the Direction line that moves toward home. -/
  dirHome : Bool
  /-- CFG17 `HOME_EDGE_SEL`. -/
  homeEdgeSel : EdgeSel
  /-- CFG18 `LIMIT_EDGE_SEL`. -/
  limitEdgeSel : EdgeSel
  /-- `ARB`, not a register (R31). -/
  arb : Arb
  /-- `IO_FAULTS`, not a register (R31): `true` is `Possible`, `false` is `Never`. -/
  ioFaults : Bool
  deriving DecidableEq, Repr, Inhabited

/-- The configuration State.reset is strapped with: the defaults of R7 to R9, and where these give none the values of
the spec's example configuration CFG-A (95_test_vectors.md). DESIGN CHOICE (log 2), unsafe: no claim about every
configuration may rest on it. -/
def Cfg.reference : Cfg where
  mode := 4#3
  nmode := 3#2
  modeTable := none
  spm := 200#32
  spt := 1#32
  maxMm := 45#32
  pw := 2
  pwUnit := .ms
  deb := .tickCounter
  cooldown := 0#32
  initTgt := 0#32
  homeOfs := 0#32
  homingSteps := 1#32
  hasLimit := false
  limitOfs := 0#32
  aEdge := .rising
  qdPolicy := .immediateLevel
  dirHome := false
  homeEdgeSel := .rising
  limitEdgeSel := .rising
  arb := .any
  ioFaults := true

/-- `DISP_DIGITS` (R9): the one legal value is 2. -/
def Config.dispDigits : Nat := 2

/-- The levels of the four input pins (10_state.md R36), logical as R15 says. -/
structure Levels where
  a : Bool
  b : Bool
  home : Bool
  limit : Bool
  deriving DecidableEq, Repr, Inhabited

/-- The environment sets an input pin to a level (R211); setting the level the pin already has is no transition. -/
structure PinMove where
  pin : InPin
  level : Bool
  deriving DecidableEq, Repr, Inhabited

/-- The environment's answer to one I/O request (R14, R62 to R64). For a pin any failure is the pin's IoFault; for
the display the failure has its kind. -/
inductive Answer where
  | ok
  | fails (kind : DisplayFailure)
  deriving DecidableEq, Repr, Inhabited

/-- One instant: all the environment does from the last access, or the last end of a step, to this one, and its answer
to this access (R14, R73). The pins move first, in the order of the list, and the clock goes on by `advance` modulo 2^TW
(R220); then the access happens and is answered. `choice` is the arbiter's choice under `ARB = Any` (R213), read only
where one is made, before the pins move. -/
structure Instant where
  moves : List PinMove
  advance : Time
  answer : Answer
  choice : Nat
  deriving DecidableEq, Repr, Inhabited

/-- What the environment does at the `n`-th instant that no script of the state gives (R14, U16 to U20: "any value").
No body: nothing can be proved of it, so a run past the script's end meets every environment (log 3). -/
opaque Config.freeInstant : Nat → Instant

/-- The input levels when reset is released: "environment's, any value" (R240; log 4). -/
opaque Config.levelsAtReset : Levels

/-- The clock when reset is released: "environment's, any value" (R220, R240; log 4). -/
opaque Config.clockAtReset : Time

/-- The mode-select levels of a configuration that gives no `MODE_TABLE` for an `NMODE` other than 3 (R8: "none: must
be given"; R184 check 9 turns such a configuration away before any mode line is written; log 13). -/
opaque Config.unstatedModeLevels : MicrostepMode → BitVec 3

/-- `mm_of` when `SPM = 0`: the division is not defined and R184 check 1 makes it unreachable (R153; log 12). -/
opaque Config.unstatedMm : Word → Word

/-- What the adapter's two-digit field shows of a height of 100 mm or more ("behavior above that range is unspecified
upstream", U3); the block never presents one (R196; log 11). -/
opaque Config.unstatedDigits : Word → Word

end Sys2Proof
end

