-- ==== Sys2Proof/Machine/State.lean ====
section
/-! DEFINITION. The state of the block (10_state.md) as plain data, the reasons a step can stop, and reset
(70_reset_and_hazards.md R240). -/

namespace Sys2Proof.Machine

open Sys2Proof

/-- `CR1 = CTX`, the sequencer context (R28). The code 6 is never taken and has no value here. -/
inductive Ctx where
  | reset
  | fgOpen
  | fgTick
  | hEnc
  | hHome
  | hLimit
  | halted
  deriving DecidableEq, Repr, Inhabited

/-- `disp`, the last frame written to the display port (R33). -/
inductive Disp where
  | blank
  | frame (f : Frame)
  deriving DecidableEq, Repr, Inhabited

/-- One entry of the output event history: a successful PinWrite or DispWrite (R37). -/
inductive OutEvent where
  | pin (p : OutPin) (level : Bool)
  | disp (f : Frame)
  deriving DecidableEq, Repr, Inhabited

/-- The environment's side, no state of the block (R36): the present input levels and clock value, the instants the
environment will go through next, and how many instants past the script's end have been drawn (log 3). -/
structure Env where
  levels : Levels
  now : Time
  script : List Instant
  drawn : Nat
  deriving DecidableEq, Repr

/-- Why a step stops with a fault. -/
inductive Fault where
  /-- Raised by `step` alone, in `ctx = HALTED` with nothing on the port: no rule has a step from it (R203), "a fault
  state in the modelling sense". It carries the fault latch. Safe: the block does nothing there either. -/
  | halted (latch : BitVec 8)
  deriving DecidableEq, Repr

/-- Why a request has no meaning. -/
inductive Refusal where
  /-- Kept for the host's interface; no arm of `exec` answers it. Safe. -/
  | notModelled (mnemonic : String)
  /-- Raised by `step` for a reserved code, and by SG.SET_MODE for a mode code 5, 6 or 7: "A model *refuses* a
  reserved request" (R100). Safe. -/
  | reserved (code : Byte)
  /-- Raised by `step` when the port holds fewer bytes than the request has (R91); no requester does this (log 23).
  Safe. -/
  | incomplete (code : Byte)
  /-- Raised by `step` when nothing is presented; the sequencer always presents something, so no step answers it.
  Safe. -/
  | noRequest
  /-- Raised by an operation whose `require` is false: "*illegal in context*", "A model refuses it" (R101). Safe. -/
  | illegalInContext
  /-- Raised by LIMIT_EDGE when HAS_LIMIT is false: "reserved in the same sense" (R100). Safe. -/
  | noLimitSensor
  /-- Raised by DISP.UPDATE Height for `mm >= 100`, to which the spec gives "no meaning (refuse)" (R196, U3). Safe. -/
  | heightBeyondDisplay
  deriving DecidableEq, Repr

/-- Everything the spec gives the machine, the environment's side and the observation aids. -/
@[ext]
structure State where
  /-- `x[0]`, the target height (R21). -/
  tgt : Word
  /-- `cur_v` and `x[1]`: `none` is `cur_v = 0`, Uncalibrated; `some h` is `cur_v = 1` with `cur = h`, Tracking (R22,
  R34; log 6). -/
  cur : Option Word
  /-- `x[2]`, the cooldown count or the time of the last qualifying event (R23). -/
  cd : Time
  /-- `cd_v` (R23). -/
  cdV : Bool
  /-- `x[3]`, the decoder's pending rotation (R24). -/
  qdPend : Rotation
  /-- `sg_en`, the StepGenerator's is_enabled flag (R25). -/
  sgEn : Bool
  /-- `CR0 = MASK` (R27). -/
  masked : Bool
  /-- `CR1 = CTX` (R28). -/
  ctx : Ctx
  /-- `CR2 = IP`, the pending latches (R29). -/
  ip : BitVec 3
  /-- `CR3 = FAULT` (R30). -/
  fault : BitVec 8
  /-- `CFG0` to `CFG18` (R31); no operation writes them. -/
  cfg : Cfg
  /-- `CFG19 MAXH`, derived by CONSTRUCT (R31, R182). -/
  maxh : Word
  /-- The Step line's latch (R32). -/
  oStep : Bool
  /-- The Direction line's latch (R32). -/
  oDir : Bool
  /-- The Enable line's latch, active low (R32). -/
  oEnN : Bool
  /-- The mode-select latches: bit 0 MS1, bit 1 MS2, bit 2 MS3 (R32). -/
  oMs : BitVec 3
  /-- The last frame written to the display port (R33). -/
  disp : Disp
  /-- What is presented on the operation port and not yet served, as bytes (R68, R90; log 8). -/
  port : List Byte
  /-- The environment (R36; log 3). -/
  env : Env
  /-- The output event history, oldest first (R37): an observation aid, read by no operation (log 19). -/
  hist : List OutEvent
  /-- The Rotation the last separately requested QD.UPDATE returned (R120): an observation aid, read by no operation
  (R36: it is no state; log 19). -/
  reply : Option Rotation
  deriving DecidableEq, Repr

/-! ### Writing one register -/

/-- `tgt` takes a value and nothing else changes. -/
def State.setTgt (s : State) (v : Word) : State := { s with tgt := v }

/-- `cur` takes a value and nothing else changes. -/
def State.setCur (s : State) (v : Option Word) : State := { s with cur := v }

/-- `cd` takes a value and nothing else changes. -/
def State.setCd (s : State) (v : Time) : State := { s with cd := v }

/-- `cdV` takes a value and nothing else changes. -/
def State.setCdV (s : State) (v : Bool) : State := { s with cdV := v }

/-- `qdPend` takes a value and nothing else changes. -/
def State.setQdPend (s : State) (v : Rotation) : State := { s with qdPend := v }

/-- `sgEn` takes a value and nothing else changes. -/
def State.setSgEn (s : State) (v : Bool) : State := { s with sgEn := v }

/-- `masked` takes a value and nothing else changes. -/
def State.setMasked (s : State) (v : Bool) : State := { s with masked := v }

/-- `ctx` takes a value and nothing else changes. -/
def State.setCtx (s : State) (v : Ctx) : State := { s with ctx := v }

/-- `ip` takes a value and nothing else changes. -/
def State.setIp (s : State) (v : BitVec 3) : State := { s with ip := v }

/-- `fault` takes a value and nothing else changes. -/
def State.setFault (s : State) (v : BitVec 8) : State := { s with fault := v }

/-- `disp` takes a value and nothing else changes. -/
def State.setDisp (s : State) (v : Disp) : State := { s with disp := v }

/-- `port` takes a value and nothing else changes. -/
def State.setPort (s : State) (v : List Byte) : State := { s with port := v }

/-- `reply` takes a value and nothing else changes. -/
def State.setReply (s : State) (v : Option Rotation) : State := { s with reply := v }

/-! ### Reset -/

/-- The block right after reset, strapped with the configuration `c` (R240, the column "before CONSTRUCT"). `tgt` and
`maxh` are unspecified there; they hold 0 (R21 allows it; DESIGN CHOICE, log 5). -/
def State.resetWith (c : Cfg) : State where
  tgt := 0#32
  cur := none
  cd := 0#32
  cdV := false
  qdPend := .none
  sgEn := false
  masked := true
  ctx := .reset
  ip := 0#3
  fault := 0x00#8
  cfg := c
  maxh := 0#32
  oStep := false
  oDir := false
  oEnN := true
  oMs := 0b000#3
  disp := .blank
  port := []
  env := { levels := Config.levelsAtReset, now := Config.clockAtReset, script := [], drawn := 0 }
  hist := []
  reply := none

/-- The machine right after reset, in the reference configuration (R240; DESIGN CHOICE of the configuration, log 2). -/
def State.reset : State := State.resetWith Cfg.reference

end Sys2Proof.Machine
end

