-- ==== Sys2Proof/Machine/Flags.lean ====
section
/-! DEFINITION. The flags and codes of the control registers: pending latches (10_state.md R29), the fault latch
(R30, 30_encoding.md R96), the contexts (R28) and the preconditions of the operations (R101). No operation of the
block sets a flag as a side effect of arithmetic (R26). -/

namespace Sys2Proof.Machine

open Sys2Proof

/-- The number of an interrupt source, its index into `ip` (R98). -/
def Source.index : Source → Nat
  | .enc => 0
  | .home => 1
  | .limit => 2

/-- The bit of a source in `ip` (R29). -/
def Source.bit : Source → BitVec 3
  | .enc => 0b001#3
  | .home => 0b010#3
  | .limit => 0b100#3

/-- The body's opcode is the source number plus one (R98). -/
def Source.bodyOp (n : Source) : Byte :=
  BitVec.ofNat 8 (Source.index n + 1)

/-- The context of the handler of a source (R28, R214). -/
def Source.ctx : Source → Ctx
  | .enc => .hEnc
  | .home => .hHome
  | .limit => .hLimit

/-- `ip` as it reads: bit 2 is hard-wired 0 when there is no limit sensor (R29). -/
def State.pendingBits (s : State) : BitVec 3 :=
  if s.cfg.hasLimit then s.ip else s.ip &&& 0b011#3

/-- Whether the latch of a source is set (R29). -/
def State.isPending (s : State) (n : Source) : Bool :=
  s.pendingBits.getLsbD (Source.index n)

/-- Dispatch clears the latch of its source (R214). -/
def State.clearPending (s : State) (n : Source) : State :=
  s.setIp (s.ip &&& ~~~ Source.bit n)

/-- The TAG of a role, in the source's own order (R96). -/
def Role.tag : Role → BitVec 5
  | .step => 0#5
  | .dir => 1#5
  | .enable => 2#5
  | .mode => 3#5
  | .encoderA => 4#5
  | .encoderB => 5#5
  | .home => 6#5
  | .limit => 7#5

/-- CLASS of a fault, `fault[6:5]` (R30, R200). -/
def BlockFault.cls : BlockFault → BitVec 2
  | .io _ => 1#2
  | .display _ => 2#2
  | .config _ => 3#2

/-- TAG of a fault, `fault[4:0]` (R96). -/
def BlockFault.tag : BlockFault → BitVec 5
  | .io r => Role.tag r
  | .display .formatting => 0#5
  | .display .write => 1#5
  | .config k => k

/-- The fault latch holding a fault: V = 1, CLASS, TAG (R30, R203). -/
def BlockFault.latch (f : BlockFault) : BitVec 8 :=
  1#1 ++ BlockFault.cls f ++ BlockFault.tag f

/-- `fault[7] = V` (R30). -/
def State.faultValid (s : State) : Bool :=
  s.fault.getLsbD 7

/-- `fault[6:5] = CLASS` (R30). -/
def State.faultClass (s : State) : BitVec 2 :=
  s.fault.extractLsb' 5 2

/-- `fault[4:0] = TAG` (R30). -/
def State.faultTag (s : State) : BitVec 5 :=
  s.fault.extractLsb' 0 5

/-- The code of a context (R28). -/
def Ctx.code : Ctx → BitVec 3
  | .reset => 0#3
  | .fgOpen => 1#3
  | .fgTick => 2#3
  | .hEnc => 3#3
  | .hHome => 4#3
  | .hLimit => 5#3
  | .halted => 7#3

/-- The code of a Rotation (R93). -/
def Rotation.code : Rotation → BitVec 2
  | .none => 0#2
  | .cw => 1#2
  | .ccw => 2#2

/-- Whether a context is that of a body (R18, R28). -/
def Ctx.isBody : Ctx → Bool
  | .fgTick => true
  | .hEnc => true
  | .hHome => true
  | .hLimit => true
  | .reset => false
  | .fgOpen => false
  | .halted => false

/-- Whether an operation of unit 1, 2 or 3 can be requested: with the mask set, inside a body or inside CONSTRUCT
(R101), whose context is RESET, "CONSTRUCT not finished" (R28; log 10). -/
def State.canCall (s : State) : Bool :=
  s.masked && (s.ctx.isBody || s.ctx == .reset)

/-- Whether a body opcode can be requested: with the mask set, in the context of that body (R101, the `require` lines
of R157 to R160). -/
def State.inBody (s : State) (c : Ctx) : Bool :=
  s.masked && s.ctx == c

/-- `qd_pend` as it reads: hard-wired None under ImmediateLevel (R24). -/
def State.pendingRotation (s : State) : Rotation :=
  match s.cfg.qdPolicy with
  | .edgeLatched => s.qdPend
  | .immediateLevel => .none

/-- Write `qd_pend`; discarded under ImmediateLevel (R24). -/
def State.latchRotation (s : State) (r : Rotation) : State :=
  match s.cfg.qdPolicy with
  | .edgeLatched => s.setQdPend r
  | .immediateLevel => s

end Sys2Proof.Machine
end

