-- ==== Sys2Proof/Machine/Operands.lean ====
section
/-! DEFINITION. Operand forms (30_encoding.md R92, R94), the mode table (41_step_generator.md R130, R131), the
arithmetic laws of 42_height_controller.md R150 to R154, the configuration checks of 43_system_ops.md R184, and which
transition of which pin an interrupt source selects (60_exceptions.md R210). -/

namespace Sys2Proof.Machine

open Sys2Proof

/-- The mode of a MicrostepMode code; 5 to 7 are reserved (R94). -/
def modeOfCode (m : BitVec 3) : Option MicrostepMode :=
  if m = 0#3 then some .full
  else if m = 1#3 then some .half
  else if m = 2#3 then some .quarter
  else if m = 3#3 then some .eighth
  else if m = 4#3 then some .sixteenth
  else none

/-- The entry of a mode in a table (R130). -/
def tableLevels (t : ModeTable) : MicrostepMode → BitVec 3
  | .full => t.full
  | .half => t.half
  | .quarter => t.quarter
  | .eighth => t.eighth
  | .sixteenth => t.sixteenth

/-- `MODE_TABLE(m)`: the given table, else the default for three lines (R131), else levels the spec does not state
(log 13). -/
def modeLevels (c : Cfg) (m : MicrostepMode) : BitVec 3 :=
  match c.modeTable with
  | some t => tableLevels t m
  | none => if c.nmode = 3#2 then tableLevels ModeTable.default3 m else Config.unstatedModeLevels m

/-- The Direction level that moves away from home, `1 - DIR_HOME` (R18). -/
def awayFromHome (c : Cfg) : Bool :=
  !c.dirHome

/-- The level of A just after its leading edge, `active` of R120. -/
def activeLevel (c : Cfg) : Bool :=
  match c.aEdge with
  | .rising => true
  | .falling => false

/-- `inc_tgt` (R150): `if MAXH - t < SPM then MAXH else t + SPM`, the difference taken on naturals (log 16). -/
def incTgt (maxh spm t : Word) : Word :=
  if maxh.toNat - t.toNat < spm.toNat then maxh else t + spm

/-- `dec_tgt` (R151). -/
def decTgt (spm t : Word) : Word :=
  if t < spm then 0#32 else t - spm

/-- `absdiff` (R10). -/
def absDiff (a b : Word) : Word :=
  if a < b then b - a else a - b

/-- The clamped step count of one TICK, `min(SPT, absdiff(c, t))` (R152). -/
def stepCount (spt c t : Word) : Word :=
  if spt ≤ absDiff c t then spt else absDiff c t

/-- `mm_of` (R153): floor division by `SPM`; with `SPM = 0`, which CONSTRUCT turns away, a free value (log 12). -/
def mmOf (spm h : Word) : Word :=
  if spm = 0#32 then Config.unstatedMm h else h / spm

/-- `frame_of()` (R154): Calibrating while Uncalibrated, else the target in millimetres. -/
def frameOf (s : State) : Frame :=
  match s.cur with
  | none => .calibrating
  | some _ => .height (mmOf s.cfg.spm s.tgt)

/-- Whether a height in millimetres fits the display's numeric field (R9, R196). -/
def fitsDisplay (mm : Word) : Bool :=
  mm.toNat < 10 ^ Config.dispDigits

/-- The frame the display holds after a successful write (R33: `mm` is 0 to 99). The block never presents a height of
100 mm or more (R196); what the field would show of one is a free value in its range (log 11). -/
def shownFrame : Frame → Frame
  | .welcome => .welcome
  | .calibrating => .calibrating
  | .height mm => .height (if fitsDisplay mm then mm else Config.unstatedDigits mm % 100#32)

/-- The natural number `MAX_MM * SPM` (R7). -/
def maxSteps (c : Cfg) : Nat :=
  c.maxMm.toNat * c.spm.toNat

/-- Whether configuration check `k` fails (R184); there are checks 1 to 9. -/
def checkFails (c : Cfg) : Nat → Bool
  | 1 => c.spm == 0#32
  | 2 => c.spt == 0#32
  | 3 => decide (2 ^ 32 ≤ maxSteps c)
  | 4 => !fitsDisplay c.maxMm
  | 5 => decide (maxSteps c < c.initTgt.toNat)
  | 6 => decide (maxSteps c < c.homeOfs.toNat)
  | 7 => c.hasLimit && decide (maxSteps c < c.limitOfs.toNat)
  | 8 => c.homingSteps == 0#32
  | 9 => decide (4#3 < c.mode) || !(c.nmode == 2#2 || c.nmode == 3#2) || (c.nmode == 2#2 && c.modeTable.isNone)
  | _ => false

/-- The first of the checks 1 to 9 that fails, if any (R184, R205). -/
def failingCheck (c : Cfg) : Option Nat :=
  [1, 2, 3, 4, 5, 6, 7, 8, 9].find? (checkFails c)

/-- Whether an edge selector selects the transition to `new` (R210, R211). -/
def selects : EdgeSel → Bool → Bool
  | .rising, new => new
  | .falling, new => !new
  | .both, _ => true

/-- The source whose latch a transition of a pin to `new` sets, if any (R210): phase A by `A_EDGE`, or on both
transitions under EdgeLatched (R122); phase B raises no interrupt; LIMIT only where the sensor exists. -/
def sensedBy (c : Cfg) : InPin → Bool → Option Source
  | .encA, new =>
    match c.qdPolicy with
    | .edgeLatched => some .enc
    | .immediateLevel => if new = activeLevel c then some .enc else none
  | .encB, _ => none
  | .home, new => if selects c.homeEdgeSel new then some .home else none
  | .limit, new => if c.hasLimit && selects c.limitEdgeSel new then some .limit else none

/-- The sources in the order an `ARB` other than `Any` serves them (R213); for `Any` only the list of all. -/
def arbOrder : Arb → List Source
  | .any => [.enc, .home, .limit]
  | .ehl => [.enc, .home, .limit]
  | .elh => [.enc, .limit, .home]
  | .hel => [.home, .enc, .limit]
  | .hle => [.home, .limit, .enc]
  | .leh => [.limit, .enc, .home]
  | .lhe => [.limit, .home, .enc]

end Sys2Proof.Machine
end

