-- ==== Sys2Proof/Machine/Ops.lean ====
section
/-! DEFINITION. The operations every meaning is written with: the environment's instants (00_scope.md R14, 20_memory.md
R73), fault entry (60_exceptions.md R203), the port accesses (20_memory.md R62 to R65), interrupt entry and return, the
foreground's entry and return (60_exceptions.md R214, R215, R217), and the arbiter's choice (R213). -/

namespace Sys2Proof.Machine

open Sys2Proof

/-- What part of a body has done: the state it leaves, and the value it returns, or `none` when a fault was raised in it
(R13: no later line of the body, or of a body that called it, executes). -/
structure Run (α : Type) where
  st : State
  val : Option α
  deriving DecidableEq, Repr

/-- Return a value and change nothing. -/
def Run.ret {α : Type} (a : α) (s : State) : Run α :=
  { st := s, val := some a }

/-- Do `r`, then `f` with what it returned; after a fault nothing more (R13). -/
def Run.bind {α β : Type} (r : Run α) (f : α → State → Run β) : Run β :=
  match r.val with
  | some a => f a r.st
  | none => { st := r.st, val := none }

/-- A request whose `require` holds runs to its next state, a halted one after a fault (R203); one whose `require` does
not hold is refused (R101). -/
def runIf {α : Type} (legal : Bool) (r : Run α) : Host.Outcome State Fault Refusal :=
  if legal then .next r.st else .refused .illegalInContext

/-! ### The environment -/

/-- The `k`-th instant of an environment from here: the script's, and past its end the free one's (log 3). -/
def Env.instantAt (e : Env) (k : Nat) : Instant :=
  match e.script[k]? with
  | some i => i
  | none => Config.freeInstant (e.drawn + (k - e.script.length))

/-- The instant at which the next access happens. -/
def State.instant (s : State) : Instant :=
  s.env.instantAt 0

/-- The level of an input pin (R36). -/
def Levels.get (l : Levels) : InPin → Bool
  | .encA => l.a
  | .encB => l.b
  | .home => l.home
  | .limit => l.limit

/-- The levels with one pin set. -/
def Levels.set (l : Levels) (p : InPin) (v : Bool) : Levels :=
  match p with
  | .encA => { l with a := v }
  | .encB => { l with b := v }
  | .home => { l with home := v }
  | .limit => { l with limit := v }

/-- The present level of an input pin. -/
def State.level (s : State) (p : InPin) : Bool :=
  Levels.get s.env.levels p

/-- What the edge detectors see and write: the input levels and the pending latches. -/
structure Pins where
  levels : Levels
  ip : BitVec 3
  deriving DecidableEq, Repr

/-- Whether an edge can set a latch: not in RESET and not in HALTED, whatever `masked` is (R211). -/
def State.armed (s : State) : Bool :=
  s.ctx != .reset && s.ctx != .halted

/-- A transition of a pin to a level sets the latch of the source that selects it, if any; a latch that is set stays set,
so that a second edge is merged (R211). -/
def latchEdge (c : Cfg) (ip : BitVec 3) (m : PinMove) : BitVec 3 :=
  match sensedBy c m.pin m.level with
  | some n => ip ||| Source.bit n
  | none => ip

/-- One step of the environment on a pin (R211); setting the level a pin already has is no transition. -/
def Pins.move (c : Cfg) (armed : Bool) (x : Pins) (m : PinMove) : Pins :=
  if Levels.get x.levels m.pin = m.level then x
  else
    { levels := Levels.set x.levels m.pin m.level
      ip := if armed then latchEdge c x.ip m else x.ip }

/-- The pins after the moves of the coming instant. -/
def State.movedPins (s : State) : Pins :=
  s.instant.moves.foldl (Pins.move s.cfg s.armed) { levels := s.env.levels, ip := s.ip }

/-- Time passes to the next access or to the end of the step (R73): the environment makes the moves of the coming
instant, the clock goes on modulo 2^TW (R220), and the instant is taken from the script or, past its end, counted. It
changes the environment and the pending latches and nothing else. -/
def State.pass (s : State) : State :=
  { s with
    ip := s.movedPins.ip
    env :=
      { levels := s.movedPins.levels
        now := s.env.now + s.instant.advance
        script := s.env.script.tail
        drawn := if s.env.script.isEmpty then s.env.drawn + 1 else s.env.drawn } }

/-- Whether the next I/O request succeeds: always when `IO_FAULTS = Never`, else as the environment answers (R202). -/
def State.granted (s : State) : Bool :=
  !s.cfg.ioFaults || s.instant.answer == .ok

/-- The kind of failure of the next display write, if it fails (R64). -/
def State.failureKind (s : State) : DisplayFailure :=
  match s.instant.answer with
  | .fails k => k
  | .ok => .write

/-! ### Fault entry (R203) and the ways into and out of a body (R214, R215, R217) -/

/-- `raise F` (R203): the latch takes the fault if it holds none, the context becomes HALTED, nothing else changes. -/
def State.takeFault (s : State) (f : BlockFault) : State :=
  (s.setFault (if s.faultValid then s.fault else BlockFault.latch f)).setCtx .halted

/-- The part of a body that raises a fault. -/
def raise {α : Type} (f : BlockFault) (s : State) : Run α :=
  { st := s.takeFault f, val := none }

/-- Dispatch of a source, one atomic step (R214). -/
def State.enterHandler (s : State) (n : Source) : State :=
  ((s.clearPending n).setMasked true).setCtx (Source.ctx n)

/-- The foreground begins a tick (R217). -/
def State.beginTick (s : State) : State :=
  (s.setMasked true).setCtx .fgTick

/-- Return from a handler (R215) and the end of a tick (R217): the mask opens and the foreground is between iterations.
Nothing is restored because nothing was saved. -/
def State.leaveBody (s : State) : State :=
  (s.setMasked false).setCtx .fgOpen

/-- The pending source the arbiter serves (R213): under `Any` the environment's choice among them, else the first in the
order. -/
def State.chosen (s : State) (choice : Nat) : Option Source :=
  match s.cfg.arb, (arbOrder s.cfg.arb).filter s.isPending with
  | _, [] => none
  | .any, n :: l => (n :: l)[choice % (n :: l).length]?
  | _, n :: _ => some n

/-! ### Port accesses -/

/-- The fault tag of an input pin (R61). -/
def InPin.role : InPin → Role
  | .encA => .encoderA
  | .encB => .encoderB
  | .home => .home
  | .limit => .limit

/-- The fault tag of an output line (R61). -/
def OutPin.role : OutPin → Role
  | .step => .step
  | .dir => .dir
  | .enN => .enable
  | .ms1 => .mode
  | .ms2 => .mode
  | .ms3 => .mode

/-- A bit of the mode-select latches takes a level. -/
def setModeBit (ms : BitVec 3) (k : Nat) (b : Bool) : BitVec 3 :=
  if b then ms ||| BitVec.twoPow 3 k else ms &&& ~~~ BitVec.twoPow 3 k

/-- The latch of an output line takes a level (R32). -/
def State.setLatch (s : State) (p : OutPin) (b : Bool) : State :=
  match p with
  | .step => { s with oStep := b }
  | .dir => { s with oDir := b }
  | .enN => { s with oEnN := b }
  | .ms1 => { s with oMs := setModeBit s.oMs 0 b }
  | .ms2 => { s with oMs := setModeBit s.oMs 1 b }
  | .ms3 => { s with oMs := setModeBit s.oMs 2 b }

/-- An event is appended to the output event history (R37). -/
def State.record (s : State) (e : OutEvent) : State :=
  { s with hist := s.hist ++ [e] }

/-- `PinRead(p)` (R62): the level at the instant of the access, or IoFault. No side effect. -/
def pinRead (p : InPin) (s : State) : Run Bool :=
  if s.granted then .ret (s.pass.level p) s.pass else raise (.io (InPin.role p)) s.pass

/-- `PinWrite(p, b)` (R63): the latch takes the level and the event is recorded, or IoFault with the latch unchanged. -/
def pinWrite (p : OutPin) (b : Bool) (s : State) : Run Unit :=
  if s.granted then .ret () ((s.pass.setLatch p b).record (.pin p b)) else raise (.io (OutPin.role p)) s.pass

/-- `DispWrite(f)` (R64): the display takes the frame and the event is recorded, or DisplayFault. -/
def dispWrite (f : Frame) (s : State) : Run Unit :=
  if s.granted then .ret () ((s.pass.setDisp (.frame (shownFrame f))).record (.disp (shownFrame f)))
  else raise (.display s.failureKind) s.pass

/-- `ClockRead()` (R65): the clock at the instant of the access; never fails. -/
def clockRead (s : State) : Run Time :=
  .ret s.pass.env.now s.pass

/-- `Delay(PW)` (R12, R261): waits and changes no state; what the environment does meanwhile is seen at the next access
(log 7). -/
def delay (s : State) : Run Unit :=
  .ret () s

end Sys2Proof.Machine
end

