-- ==== Sys2Proof/Machine/DisplayPort.lean ====
section
/-! DEFINITION. The display port (44_display_port.md). -/

namespace Sys2Proof.Machine

open Sys2Proof

/-- DISP.UPDATE f as a body calls it (R195). A call that writes the frame already shown is still made (R197). -/
def dispUpdate (f : Frame) (s : State) : Run Unit :=
  dispWrite f s

/-- DISP.UPDATE Welcome (R195). -/
def execDispWelcome (s : State) : Host.Outcome State Fault Refusal :=
  runIf s.canCall (dispUpdate .welcome s)

/-- DISP.UPDATE Calibrating (R195). -/
def execDispCalibrating (s : State) : Host.Outcome State Fault Refusal :=
  runIf s.canCall (dispUpdate .calibrating s)

/-- DISP.UPDATE Height mm (R195); a height of 100 mm or more is refused (R196, U3; log 11). -/
def execDispHeight (mm : Word) (s : State) : Host.Outcome State Fault Refusal :=
  if fitsDisplay mm then runIf s.canCall (dispUpdate (.height mm) s) else .refused .heightBeyondDisplay

end Sys2Proof.Machine
end

