-- ==== Sys2Proof/Machine/QuadratureDecoder.lean ====
section
/-! DEFINITION. The QuadratureDecoder (40_quadrature_decoder.md). -/

namespace Sys2Proof.Machine

open Sys2Proof

/-- The direction that level `b` of phase B stands for: high is CW, low is CCW (R121, R123). -/
def directionOf (b : Bool) : Rotation :=
  if b then .cw else .ccw

/-- Policy (b) of QD.UPDATE (R120, R121): an edge qualifies when A still holds the active level; only then is B read. -/
def qdImmediate (s : State) : Run Rotation :=
  (pinRead .encA s).bind fun a s =>
    if a = activeLevel s.cfg then (pinRead .encB s).bind fun b s => .ret (directionOf b) s
    else .ret .none s

/-- Policy (a) of QD.UPDATE (R120, R122, R123): the start of a transition latches a direction, its completion emits it. -/
def qdEdgeLatched (s : State) : Run Rotation :=
  (pinRead .encA s).bind fun a s =>
    if a = activeLevel s.cfg then
      (pinRead .encB s).bind fun b s => .ret .none (s.latchRotation (directionOf b))
    else .ret s.pendingRotation (s.latchRotation .none)

/-- QD.UPDATE as a body calls it (R120). -/
def qdUpdate (s : State) : Run Rotation :=
  match s.cfg.qdPolicy with
  | .immediateLevel => qdImmediate s
  | .edgeLatched => qdEdgeLatched s

/-- QD.UPDATE (R120), requested by itself in the ENC handler: as a body calls it, and the returned Rotation is shown in
the observation aid `reply` (log 19). -/
def execQdUpdate (s : State) : Host.Outcome State Fault Refusal :=
  runIf (s.inBody .hEnc) ((qdUpdate s).bind fun r s => .ret () (s.setReply (some r)))

end Sys2Proof.Machine
end

