-- ==== Sys2Proof/Machine/StepGenerator.lean ====
section
/-! DEFINITION. The StepGenerator (41_step_generator.md). -/

namespace Sys2Proof.Machine

open Sys2Proof

/-- SG.SET_MODE as a body calls it (R132): the lines MS1, MS2 and, with three lines, MS3, one after the other. -/
def sgSetMode (m : MicrostepMode) (s : State) : Run Unit :=
  (pinWrite .ms1 ((modeLevels s.cfg m).getLsbD 0) s).bind fun _ s =>
  (pinWrite .ms2 ((modeLevels s.cfg m).getLsbD 1) s).bind fun _ s =>
    if s.cfg.nmode = 3#2 then pinWrite .ms3 ((modeLevels s.cfg m).getLsbD 2) s else .ret () s

/-- SG.ENABLE as a body calls it (R133): the write is made even when the flag is set. -/
def sgEnable (s : State) : Run Unit :=
  (pinWrite .enN false s).bind fun _ s => .ret () (s.setSgEn true)

/-- SG.DISABLE as a body calls it (R134): the write is made even when the flag is clear. -/
def sgDisable (s : State) : Run Unit :=
  (pinWrite .enN true s).bind fun _ s => .ret () (s.setSgEn false)

/-- One step pulse: raise, hold, lower, hold (R135). -/
def sgPulse (s : State) : Run Unit :=
  (pinWrite .step true s).bind fun _ s =>
  (delay s).bind fun _ s =>
  (pinWrite .step false s).bind fun _ s => delay s

/-- A train of `n` step pulses (R135). -/
def sgTrain : Nat → State → Run Unit
  | 0, s => .ret () s
  | n + 1, s => (sgPulse s).bind fun _ s => sgTrain n s

/-- SG.ROTATE as a body calls it (R135): direction, enable if the driver was disabled, the pulses, and disable again if it
was. -/
def sgRotate (d : Bool) (steps : Word) (s : State) : Run Unit :=
  (pinWrite .dir d s).bind fun _ s1 =>
  (if s.sgEn then .ret () s1 else sgEnable s1).bind fun _ s2 =>
  (sgTrain steps.toNat s2).bind fun _ s3 =>
    if s.sgEn then .ret () s3 else sgDisable s3

/-- SG.DISABLE (R134). -/
def execSgDisable (s : State) : Host.Outcome State Fault Refusal :=
  runIf s.canCall (sgDisable s)

/-- SG.ENABLE (R133). -/
def execSgEnable (s : State) : Host.Outcome State Fault Refusal :=
  runIf s.canCall (sgEnable s)

/-- SG.ROTATE d, steps (R135). -/
def execSgRotate (d : Bool) (steps : Word) (s : State) : Host.Outcome State Fault Refusal :=
  runIf s.canCall (sgRotate d steps s)

/-- SG.SET_MODE m (R132); a mode code 5, 6 or 7 is a reserved request (R94, R100). -/
def execSgSetMode (m : BitVec 3) (s : State) : Host.Outcome State Fault Refusal :=
  match modeOfCode m with
  | some mode => runIf s.canCall (sgSetMode mode s)
  | none => .refused (.reserved (0b00101#5 ++ m))

end Sys2Proof.Machine
end

