-- ==== Sys2Proof/Machine/HeightController.lean ====
section
/-! DEFINITION. The HeightController: the four bodies (42_height_controller.md). -/

namespace Sys2Proof.Machine

open Sys2Proof

/-- The cooldown test at the head of every TICK (R156): whether the Tracking move is suppressed, and the cooldown state
after it. -/
def cooldownTest (s : State) : Run Bool :=
  match s.cfg.deb with
  | .tickCounter => if 0#32 < s.cd then .ret true (s.setCd (s.cd - 1#32)) else .ret false s
  | .elapsedTime =>
    if s.cdV then
      (clockRead s).bind fun n s =>
        if s.cfg.cooldown ≤ n - s.cd then .ret false (s.setCdV false) else .ret true s
    else .ret false s

/-- TICK while Uncalibrated (R157, R161): one homing step, then sample HOME; if it is triggered, calibration is final and
the display is refreshed. -/
def tickHoming (s : State) : Run Unit :=
  (sgRotate s.cfg.dirHome s.cfg.homingSteps s).bind fun _ s =>
  (pinRead .home s).bind fun h s =>
    if h then dispUpdate (frameOf (s.setCur (some s.cfg.homeOfs))) (s.setCur (some s.cfg.homeOfs))
    else .ret () s

/-- The move of a Tracking TICK from `c` (R152, R157, R162): at most `SPT` steps, never past the target. -/
def tickMove (c : Word) (s : State) : Run Unit :=
  if c < s.tgt then
    (sgRotate (awayFromHome s.cfg) (stepCount s.cfg.spt c s.tgt) s).bind fun _ s' =>
      .ret () (s'.setCur (some (c + stepCount s.cfg.spt c s.tgt)))
  else
    (sgRotate s.cfg.dirHome (stepCount s.cfg.spt c s.tgt) s).bind fun _ s' =>
      .ret () (s'.setCur (some (c - stepCount s.cfg.spt c s.tgt)))

/-- The body TICK (R157). -/
def tickBody (s : State) : Run Unit :=
  (cooldownTest s).bind fun suppressed s =>
    match s.cur with
    | none => tickHoming s
    | some c => if c ≠ s.tgt ∧ suppressed = false then tickMove c s else .ret () s

/-- A qualifying encoder event opens or re-opens the cooldown window (R158, R164 (a)). -/
def openCooldown (s : State) : Run Unit :=
  match s.cfg.deb with
  | .tickCounter => .ret () (s.setCd s.cfg.cooldown)
  | .elapsedTime => (clockRead s).bind fun n s => .ret () ((s.setCd n).setCdV true)

/-- The target after a rotation (R150, R151, R158). -/
def turnedTarget (r : Rotation) (s : State) : Word :=
  match r with
  | .none => s.tgt
  | .cw => incTgt s.maxh s.cfg.spm s.tgt
  | .ccw => decTgt s.cfg.spm s.tgt

/-- What ENC_EDGE does with a rotation other than None (R158): target, cooldown, and a refresh only if the target
changed. -/
def turn (r : Rotation) (s : State) : Run Unit :=
  (openCooldown (s.setTgt (turnedTarget r s))).bind fun _ s' =>
    if s'.tgt ≠ s.tgt then dispUpdate (frameOf s') s' else .ret () s'

/-- The body ENC_EDGE (R158). -/
def encEdgeBody (s : State) : Run Unit :=
  (qdUpdate s).bind fun r s =>
    match r with
    | .none => .ret () s
    | .cw => turn .cw s
    | .ccw => turn .ccw s

/-- The body HOME_EDGE (R159). -/
def homeEdgeBody (s : State) : Run Unit :=
  dispUpdate .calibrating (s.setCur none)

/-- The compensating move of LIMIT_EDGE, made only for a positive offset (R160, R165 (a), (b)). -/
def limitMove (s : State) : Run Unit :=
  if 0#32 < s.cfg.limitOfs then sgRotate (awayFromHome s.cfg) s.cfg.limitOfs s else .ret () s

/-- The position that LIMIT_EDGE records (R160). -/
def State.atLimit (s : State) : State :=
  (s.setCur (some s.cfg.limitOfs)).setTgt s.cfg.limitOfs

/-- The body LIMIT_EDGE (R160). -/
def limitEdgeBody (s : State) : Run Unit :=
  (limitMove s).bind fun _ s => dispUpdate (frameOf s.atLimit) s.atLimit

/-- TICK (R157). -/
def execTick (s : State) : Host.Outcome State Fault Refusal :=
  runIf (s.inBody .fgTick) (tickBody s)

/-- ENC_EDGE (R158). -/
def execEncEdge (s : State) : Host.Outcome State Fault Refusal :=
  runIf (s.inBody .hEnc) (encEdgeBody s)

/-- HOME_EDGE (R159). -/
def execHomeEdge (s : State) : Host.Outcome State Fault Refusal :=
  runIf (s.inBody .hHome) (homeEdgeBody s)

/-- LIMIT_EDGE (R160); without a limit sensor the request is reserved (R100). -/
def execLimitEdge (s : State) : Host.Outcome State Fault Refusal :=
  if s.cfg.hasLimit then runIf (s.inBody .hLimit) (limitEdgeBody s) else .refused .noLimitSensor

end Sys2Proof.Machine
end

