-- ==== Sys2Proof/Machine/System.lean ====
section
/-! DEFINITION. The system operations (43_system_ops.md). -/

namespace Sys2Proof.Machine

open Sys2Proof

/-- CS.ENTER (R180): mask all interrupts; no nesting. -/
def execCsEnter (s : State) : Host.Outcome State Fault Refusal :=
  runIf (!s.masked && s.ctx != .halted) (.ret () (s.setMasked true))

/-- CS.EXIT (R181): unmask. -/
def execCsExit (s : State) : Host.Outcome State Fault Refusal :=
  runIf (s.masked && s.ctx != .halted) (.ret () (s.setMasked false))

/-- The registers CONSTRUCT writes before any output (R182). -/
def State.initRegisters (s : State) : State :=
  { s with
    maxh := BitVec.ofNat 32 (maxSteps s.cfg)
    tgt := s.cfg.initTgt
    cur := none
    cd := 0#32
    cdV := false
    qdPend := .none
    sgEn := false }

/-- The last lines of CONSTRUCT (R182): the edge detectors are armed with nothing pending, and the mask opens. -/
def State.openForeground (s : State) : State :=
  ((s.setIp 0#3).setCtx .fgOpen).setMasked false

/-- The body of CONSTRUCT (R182): checks, registers, mode lines, Welcome, arm, unmask (R183 (c)). -/
def constructBody (s : State) : Run Unit :=
  match failingCheck s.cfg, modeOfCode s.cfg.mode with
  | some k, _ => raise (.config (BitVec.ofNat 5 k)) s
  | none, none => raise (.config 9#5) s
  | none, some m =>
    (sgSetMode m s.initRegisters).bind fun _ s =>
    (dispUpdate .welcome s).bind fun _ s => .ret () s.openForeground

/-- CONSTRUCT (R182). -/
def execConstruct (s : State) : Host.Outcome State Fault Refusal :=
  runIf (s.masked && s.ctx == .reset) (constructBody s)

end Sys2Proof.Machine
end

