-- ==== Sys2Proof/Machine/Dispatch.lean ====
section
/-! DEFINITION. The meaning of each operation: one arm a constructor, one call an arm. -/

namespace Sys2Proof.Machine

open Sys2Proof

def exec (i : Instr) (s : State) : Host.Outcome State Fault Refusal :=
  match i with
  | .tick => Sys2Proof.Machine.execTick s
  | .encEdge => Sys2Proof.Machine.execEncEdge s
  | .homeEdge => Sys2Proof.Machine.execHomeEdge s
  | .limitEdge => Sys2Proof.Machine.execLimitEdge s
  | .qdUpdate => Sys2Proof.Machine.execQdUpdate s
  | .sgDisable => Sys2Proof.Machine.execSgDisable s
  | .sgEnable => Sys2Proof.Machine.execSgEnable s
  | .sgRotate d steps => Sys2Proof.Machine.execSgRotate d steps s
  | .sgSetMode m => Sys2Proof.Machine.execSgSetMode m s
  | .dispWelcome => Sys2Proof.Machine.execDispWelcome s
  | .dispCalibrating => Sys2Proof.Machine.execDispCalibrating s
  | .dispHeight mm => Sys2Proof.Machine.execDispHeight mm s
  | .csEnter => Sys2Proof.Machine.execCsEnter s
  | .csExit => Sys2Proof.Machine.execCsExit s
  | .construct => Sys2Proof.Machine.execConstruct s

end Sys2Proof.Machine
end

