-- ==== Sys2Proof/WellFormed.lean ====
section
/-! DEFINITION. Which terms of Instr are operations of the block (30_encoding.md R92, R94, R97). -/

namespace Sys2Proof

/-- An operation is well formed when its fields hold values that R97 lists: the only constraint is `m <= 4` of
SG.SET_MODE (R94: the codes 5 to 7 are reserved). Every `steps` and every `mm` fits its operand word, and every level
`d` its bit. LIMIT_EDGE is well formed in every configuration: whether it exists is a question of HAS_LIMIT (R100),
which no decoder reads (R102). -/
def Instr.wellFormed : Instr → Bool
  | .sgSetMode m => m ≤ 4#3
  | .tick => true
  | .encEdge => true
  | .homeEdge => true
  | .limitEdge => true
  | .qdUpdate => true
  | .sgDisable => true
  | .sgEnable => true
  | .sgRotate _ _ => true
  | .dispWelcome => true
  | .dispCalibrating => true
  | .dispHeight _ => true
  | .csEnter => true
  | .csExit => true
  | .construct => true

end Sys2Proof
end

