-- ==== Sys2Proof/Decode.lean ====
section
/-! DEFINITION. Reading an operation from the bytes presented on the operation port, and writing one
(30_encoding.md R90, R91, R97, R100; serialisation of the operand word: 20_memory.md R68). -/

namespace Sys2Proof

/-- What the decoder answers: the operation and the bytes after it, or why there is none. -/
inductive Decoded where
  /-- The operation and the bytes that follow its request. -/
  | op (i : Instr) (rest : List Byte)
  /-- The code is one of the reserved values of R100. -/
  | reserved (code : Byte)
  /-- The code has an operand word (R91) and fewer than four bytes follow it. -/
  | incomplete (code : Byte)
  /-- Nothing is presented. -/
  | idle
  deriving DecidableEq, Repr

/-- The operand word from its four bytes, least significant first (R68). -/
def wordOfBytes (b0 b1 b2 b3 : Byte) : Word :=
  b3 ++ b2 ++ b1 ++ b0

/-- The four bytes of an operand word, least significant first (R68). -/
def bytesOfWord (w : Word) : List Byte :=
  [w.extractLsb' 0 8, w.extractLsb' 8 8, w.extractLsb' 16 8, w.extractLsb' 24 8]

/-- Read the operand word that the operation `mk` needs (R91, R92). -/
def decodeOperand (code : Byte) (mk : Word → Instr) : List Byte → Decoded
  | b0 :: b1 :: b2 :: b3 :: rest => .op (mk (wordOfBytes b0 b1 b2 b3)) rest
  | _ => .incomplete code

/-- Read one request: the rows of R97 in order, by mask and pattern; every other code is reserved (R100). -/
def decode : List Byte → Decoded
  | [] => .idle
  | op :: rest =>
    if op = 0x00#8 then .op .tick rest
    else if op = 0x01#8 then .op .encEdge rest
    else if op = 0x02#8 then .op .homeEdge rest
    else if op = 0x03#8 then .op .limitEdge rest
    else if op = 0x10#8 then .op .qdUpdate rest
    else if op = 0x20#8 then .op .sgDisable rest
    else if op = 0x21#8 then .op .sgEnable rest
    else if op.extractLsb' 1 7 = 0b0010001#7 then decodeOperand op (.sgRotate (op.getLsbD 0)) rest
    else if op.extractLsb' 3 5 = 0b00101#5 ∧ op.extractLsb' 0 3 ≤ 4#3 then
      .op (.sgSetMode (op.extractLsb' 0 3)) rest
    else if op = 0x30#8 then .op .dispWelcome rest
    else if op = 0x31#8 then .op .dispCalibrating rest
    else if op = 0x32#8 then decodeOperand op .dispHeight rest
    else if op = 0x40#8 then .op .csEnter rest
    else if op = 0x41#8 then .op .csExit rest
    else if op = 0x42#8 then .op .construct rest
    else .reserved op

/-- How many bytes a request that begins with `op` has: the length is known from `op` alone (R91). -/
def requestLength (op : Byte) : Nat :=
  if op = 0x22#8 ∨ op = 0x23#8 ∨ op = 0x32#8 then 5 else 1

/-- Write an operation as the bytes of its request, from the patterns of R97. -/
def encode : Instr → List Byte
  | .tick => [0x00#8]
  | .encEdge => [0x01#8]
  | .homeEdge => [0x02#8]
  | .limitEdge => [0x03#8]
  | .qdUpdate => [0x10#8]
  | .sgDisable => [0x20#8]
  | .sgEnable => [0x21#8]
  | .sgRotate d steps => (0b0010001#7 ++ BitVec.ofBool d) :: bytesOfWord steps
  | .sgSetMode m => [0b00101#5 ++ m]
  | .dispWelcome => [0x30#8]
  | .dispCalibrating => [0x31#8]
  | .dispHeight mm => 0x32#8 :: bytesOfWord mm
  | .csEnter => [0x40#8]
  | .csExit => [0x41#8]
  | .construct => [0x42#8]

/-- The bytes of the longest request (R91), for an instruction whose bits are `w` (only the low `nbits` count), the
first byte at the lowest place. -/
def bytesOfTableWord (nbits w : Nat) : List Byte :=
  let v := w % 2 ^ nbits
  [BitVec.ofNat 8 v, BitVec.ofNat 8 (v / 2 ^ 8), BitVec.ofNat 8 (v / 2 ^ 16), BitVec.ofNat 8 (v / 2 ^ 24),
    BitVec.ofNat 8 (v / 2 ^ 32)]

/-- The bytes of the one request that begins the bits `w`, and no byte more (R91). -/
def requestOfTableWord (nbits w : Nat) : List Byte :=
  match bytesOfTableWord nbits w with
  | [] => []
  | op :: rest => op :: rest.take (requestLength op - 1)

/-- The operation the decoder reads from an instruction whose bits are `w`, bit 0 the least significant bit of the
first byte; operand bits above `nbits` are 0. -/
def decodeTableWord (nbits w : Nat) : Option Instr :=
  match decode (bytesOfTableWord nbits w) with
  | .op i _ => some i
  | .reserved _ => none
  | .incomplete _ => none
  | .idle => none

end Sys2Proof
end

