-- ==== Sys2Proof/Machine/Sequencer.lean ====
section
/-! DEFINITION. Who presents requests on the operation port and what goes with them: the foreground sequencer and the
interrupt arbiter (43_system_ops.md R186, 60_exceptions.md R212 to R217), the pseudo-operations of 30_encoding.md R104,
and the placing of one request from outside (log 8). -/

namespace Sys2Proof.Machine

open Sys2Proof

/-- The three requests of a pseudo-operation: CS.ENTER, the body, CS.EXIT (R104). -/
def handleSequence (body : Byte) : List Byte :=
  [0x40#8, body, 0x41#8]

/-- What the foreground and the arbiter request between bodies (R213, R214, R217): a pending source's sequence, else
`handle_tick`. The environment has acted up to this point (`State.settled`); its choice is that of the coming instant. -/
def State.presentNext (s : State) : State :=
  match s.chosen s.instant.choice with
  | some n => s.setPort (handleSequence (Source.bodyOp n))
  | none => s.setPort (handleSequence 0x00#8)

/-- With nothing on the port, the next request is presented: CONSTRUCT after reset (R241), a pseudo-operation between
bodies, and in a body's context the CS.EXIT that ends it, since its body has been served (R104, R215, R217; log 9). -/
def State.present (s : State) : State :=
  match s.ctx with
  | .reset => s.setPort [0x42#8]
  | .fgOpen => s.presentNext
  | .fgTick => s.setPort [0x41#8]
  | .hEnc => s.setPort [0x41#8]
  | .hHome => s.setPort [0x41#8]
  | .hLimit => s.setPort [0x41#8]
  | .halted => s

/-- The state whose port holds the request that is served next. -/
def State.presented (s : State) : State :=
  match s.port with
  | [] => s.present
  | _ :: _ => s

/-- The source whose body has this opcode (R98). -/
def sourceOfOp (op : Byte) : Option Source :=
  if op = Source.bodyOp .enc then some .enc
  else if op = Source.bodyOp .home then some .home
  else if op = Source.bodyOp .limit then some .limit
  else none

/-- What goes with a CS.ENTER (R104): when the next request is a body's and its entry is enabled, the entry of R214 or
R217 happens in the same step. Nothing else changes the context. -/
def State.afterEnter (t : State) : State :=
  if t.ctx = .fgOpen then
    match t.port with
    | [] => t
    | op :: _ =>
      if op = 0x00#8 then (if t.pendingBits = 0#3 then t.beginTick else t)
      else
        match sourceOfOp op with
        | some n => if t.isPending n then t.enterHandler n else t
        | none => t
  else t

/-- What goes with a CS.EXIT (R104): in a body's context, the return of R215 or the end of tick of R217. -/
def State.afterExit (t : State) : State :=
  if t.ctx.isBody then t.leaveBody else t

/-- What the sequencer adds to a served operation: the context and latch updates of R214, R215 and R217 around CS.ENTER
and CS.EXIT, and nothing around any other operation (R28). -/
def State.accompany (i : Instr) (t : State) : State :=
  match i with
  | .csEnter => t.afterEnter
  | .csExit => t.afterExit
  | .tick => t
  | .encEdge => t
  | .homeEdge => t
  | .limitEdge => t
  | .qdUpdate => t
  | .sgDisable => t
  | .sgEnable => t
  | .sgRotate _ _ => t
  | .sgSetMode _ => t
  | .dispWelcome => t
  | .dispCalibrating => t
  | .dispHeight _ => t
  | .construct => t

/-- The end of every step. After a fault the rest of what was presented never runs, so its requester presents nothing more
(R203). Then the environment acts (R73): by the end of a body, and between bodies, any pin may have changed and any
source's latch may have been set, whether or not the body made an access. -/
def State.settled (t : State) : State :=
  if t.ctx = .halted then (t.setPort []).pass else t.pass

/-- The outcome of a served operation with what the sequencer adds to it, settled. -/
def accompanied (i : Instr) : Host.Outcome State Fault Refusal → Host.Outcome State Fault Refusal
  | .next t => .next (t.accompany i).settled
  | .fault r => .fault r
  | .refused r => .refused r

/-- The context a body opcode, QD.UPDATE or CONSTRUCT is requested in (R101), with the mask set. -/
def State.requestedIn (s : State) (c : Ctx) : State :=
  if s.inBody c then s else (s.setMasked true).setCtx c

/-- The context an operation of unit 2 or 3 is requested in (R101): kept where it can be requested, else the foreground's
body. -/
def State.requestedInCall (s : State) : State :=
  if s.canCall then s else (s.setMasked true).setCtx .fgTick

/-- `s` where the requester of an operation would present it: the context and the mask its `require` asks for, changed
only where `s` is not such a place (R101, R186; log 8). LIMIT_EDGE is requested only in a block that has the sensor
(R100). -/
def State.requestedFor (i : Instr) (s : State) : State :=
  match i with
  | .tick => s.requestedIn .fgTick
  | .encEdge => s.requestedIn .hEnc
  | .homeEdge => s.requestedIn .hHome
  | .limitEdge => { s with cfg := { s.cfg with hasLimit := true } }.requestedIn .hLimit
  | .qdUpdate => s.requestedIn .hEnc
  | .sgDisable => s.requestedInCall
  | .sgEnable => s.requestedInCall
  | .sgRotate _ _ => s.requestedInCall
  | .sgSetMode _ => s.requestedInCall
  | .dispWelcome => s.requestedInCall
  | .dispCalibrating => s.requestedInCall
  | .dispHeight _ => s.requestedInCall
  | .csEnter => if !s.masked && s.ctx != .halted then s else (s.setMasked false).setCtx .fgOpen
  | .csExit => if s.masked && s.ctx != .halted then s else (s.setMasked true).setCtx .fgTick
  | .construct => s.requestedIn .reset

/-- One request placed on the operation port from outside: its bytes and no others, in the place its requester presents
it. Bytes that are no operation are placed as they are, and so is every request to a halted block, which no placing takes
out of HALTED (R101, R203). -/
def State.placeRequest (s : State) (bytes : List Byte) : State :=
  match decode bytes with
  | .op i _ => (if s.ctx = .halted then s else s.requestedFor i).setPort bytes
  | .reserved _ => s.setPort bytes
  | .incomplete _ => s.setPort bytes
  | .idle => s.setPort bytes

end Sys2Proof.Machine
end

