-- ==== Sys2Proof/Machine/Step.lean ====
section
/-! DEFINITION. One step of the block: the request on the operation port is read and run (30_encoding.md R90, R100,
60_exceptions.md R203, R212 to R217). -/

namespace Sys2Proof.Machine

open Sys2Proof

/-- Serve the request at the head of the port: the operation runs with the port moved past it. -/
def serve (s : State) : Host.Outcome State Fault Refusal :=
  match decode s.port with
  | .op i rest => accompanied i (exec i (s.setPort rest))
  | .reserved code => .refused (.reserved code)
  | .incomplete code => .refused (.incomplete code)
  | .idle => .refused .noRequest

/-- One step: the request on the port, or the one the sequencer or the arbiter presents when there is none, is served. In
HALTED nothing presents one, and there is no step (R203; log 18); a request that stands on the port all the same is
refused (R101). -/
def step (s : State) : Host.Outcome State Fault Refusal :=
  if s.ctx = .halted ∧ s.port = [] then .fault (.halted s.fault) else serve s.presented

/-- `s` with one request on its operation port, so that the next step runs it (log 8). -/
def State.withFetchWord (s : State) (nbits w : Nat) : State :=
  s.placeRequest (requestOfTableWord nbits w)

end Sys2Proof.Machine
end

