-- ==== Sys2Proof/Safety.lean ====
section
/-! DEFINITION. The terms claims are stated in: what a run of accesses does to the environment's side, which events an
operation produces, what the event history says of the motor (10_state.md R37), the cooldown and decoder rules as
relations, and the invariant of the block (70_reset_and_hazards.md R250). -/

namespace Sys2Proof.Machine

open Sys2Proof

/-! ### Accesses -/

/-- The state after `n` accesses have passed, as far as the environment and the pending latches go. -/
def State.passes : Nat → State → State
  | 0, s => s
  | n + 1, s => s.pass.passes n

/-- The next `n` I/O requests all succeed (R202: always so when `IO_FAULTS = Never`). -/
abbrev State.grants (s : State) (n : Nat) : Prop :=
  ∀ k, k < n → (s.passes k).granted = true

/-- What a fault leaves of a state (R203): the latch takes `code` if its V bit is 0, and the context is HALTED. -/
def State.haltedWith (s : State) (code : BitVec 8) : State :=
  { s with fault := if s.fault.getLsbD 7 then s.fault else code, ctx := .halted }

/-- Where an operation of unit 1, 2 or 3 may be requested: under the mask, inside a body or CONSTRUCT (R101). -/
abbrev State.InCall (s : State) : Prop :=
  s.masked = true ∧ s.ctx ≠ .fgOpen ∧ s.ctx ≠ .halted

/-- The code of a DisplayFault (R96, R201). -/
def displayCode : DisplayFailure → BitVec 8
  | .formatting => 0xC0#8
  | .write => 0xC1#8

/-- The fault codes that an operation can raise, itself or in an operation it calls (R201). -/
def raisable : Instr → List (BitVec 8)
  | .tick => [0xA0#8, 0xA1#8, 0xA2#8, 0xA6#8, 0xC0#8, 0xC1#8]
  | .encEdge => [0xA4#8, 0xA5#8, 0xC0#8, 0xC1#8]
  | .homeEdge => [0xC0#8, 0xC1#8]
  | .limitEdge => [0xA0#8, 0xA1#8, 0xA2#8, 0xC0#8, 0xC1#8]
  | .qdUpdate => [0xA4#8, 0xA5#8]
  | .sgDisable => [0xA2#8]
  | .sgEnable => [0xA2#8]
  | .sgRotate _ _ => [0xA0#8, 0xA1#8, 0xA2#8]
  | .sgSetMode _ => [0xA3#8]
  | .dispWelcome => [0xC0#8, 0xC1#8]
  | .dispCalibrating => [0xC0#8, 0xC1#8]
  | .dispHeight _ => [0xC0#8, 0xC1#8]
  | .csEnter => []
  | .csExit => []
  | .construct =>
    [0xE1#8, 0xE2#8, 0xE3#8, 0xE4#8, 0xE5#8, 0xE6#8, 0xE7#8, 0xE8#8, 0xE9#8, 0xA3#8, 0xC0#8, 0xC1#8]

/-- The state after `n` TICKs in a row with nothing between them, if each answers a next state (R163). -/
def tickRun : Nat → State → Option State
  | 0, s => some s
  | n + 1, s =>
    match exec .tick s with
    | .next t => tickRun n t
    | .fault _ => none
    | .refused _ => none

/-- The distance of two heights, on naturals (R10). -/
def distance (a b : Word) : Nat :=
  (a.toNat - b.toNat) + (b.toNat - a.toNat)

/-! ### Events (R37, R135) -/

/-- The events of `n` step pulses. -/
def pulseEvents : Nat → List OutEvent
  | 0 => []
  | n + 1 => .pin .step true :: .pin .step false :: pulseEvents n

/-- The events of a whole SG.ROTATE that finds the driver enabled or not (R135, R137). -/
def rotateEvents (enabled d : Bool) (n : Nat) : List OutEvent :=
  .pin .dir d ::
    (if enabled then pulseEvents n else .pin .enN false :: (pulseEvents n ++ [.pin .enN true]))

/-- How many accesses a whole SG.ROTATE makes: one for each of its events. -/
def rotateAccesses (enabled : Bool) (n : Nat) : Nat :=
  if enabled then 2 * n + 1 else 2 * n + 3

/-- The state after a whole SG.ROTATE of `n` steps (R135): the direction line holds `d`, STEP is low after a pulse, and
the enable line and flag are as before. -/
def State.rotated (s : State) (d : Bool) (n : Nat) : State :=
  { s.passes (rotateAccesses s.sgEn n) with
    oDir := d
    oStep := if n = 0 then s.oStep else false
    oEnN := if s.sgEn then s.oEnN else true
    hist := s.hist ++ rotateEvents s.sgEn d n }

/-- The mode-select latches when the first `k` lines have been driven with `levels` and the others not yet. -/
def drivenModes (k : Nat) (levels old : BitVec 3) : BitVec 3 :=
  (levels &&& BitVec.ofNat 3 (2 ^ k - 1)) ||| (old &&& ~~~ BitVec.ofNat 3 (2 ^ k - 1))

/-- The events of a whole SG.SET_MODE (R132). -/
def modeEvents (c : Cfg) (levels : BitVec 3) : List OutEvent :=
  [.pin .ms1 (levels.getLsbD 0), .pin .ms2 (levels.getLsbD 1)] ++
    (if c.nmode = 3#2 then [.pin .ms3 (levels.getLsbD 2)] else [])

/-- How many accesses a whole SG.SET_MODE makes: one for each of its events, the lines MS1, MS2 and MS3. -/
def modeAccesses (c : Cfg) : Nat :=
  if c.nmode = 3#2 then 3 else 2

/-- The state after the first `k` lines of an SG.SET_MODE have been driven with the given levels, and `j` accesses have
been made (R132). -/
def State.modeDriven (s : State) (levels : BitVec 3) (k j : Nat) : State :=
  { s.passes j with
    oMs := drivenModes k levels s.oMs
    hist := s.hist ++ (modeEvents s.cfg levels).take k }

/-- The state after a frame has been written (R64, R195). -/
def State.shown (s : State) (f : Frame) : State :=
  { s.pass with disp := .frame f, hist := s.hist ++ [.disp f] }

/-! ### What the history says of the motor (R37) -/

/-- The three lines that make a step pulse. -/
structure Lines where
  step : Bool
  dir : Bool
  enN : Bool
  deriving DecidableEq, Repr

/-- The lines of a state. -/
def State.lines (s : State) : Lines :=
  { step := s.oStep, dir := s.oDir, enN := s.oEnN }

/-- The lines after an event. -/
def Lines.after (l : Lines) : OutEvent → Lines
  | .pin .step b => { l with step := b }
  | .pin .dir b => { l with dir := b }
  | .pin .enN b => { l with enN := b }
  | .pin .ms1 _ => l
  | .pin .ms2 _ => l
  | .pin .ms3 _ => l
  | .disp _ => l

/-- A step pulse: its direction, and whether it is effective (R37). -/
structure Pulse where
  dir : Bool
  effective : Bool
  deriving DecidableEq, Repr

/-- Whether an event is a step pulse where the lines are `l`: STEP goes from 0 to 1 (R37). -/
def Lines.isPulse (l : Lines) (e : OutEvent) : Bool :=
  e == .pin .step true && !l.step

/-- The step pulses of a list of events that begins with the lines `l` (R37). -/
def pulses (l : Lines) : List OutEvent → List Pulse
  | [] => []
  | e :: es =>
    if l.isPulse e then { dir := l.dir, effective := !l.enN } :: pulses (l.after e) es else pulses (l.after e) es

/-- How far a list of pulses moves the motor away from home, counting effective pulses alone (R37). -/
def displacement (dirHome : Bool) : List Pulse → Int
  | [] => 0
  | p :: ps => (if p.effective then (if p.dir = dirHome then -1 else 1) else 0) + displacement dirHome ps

/-- How many frames a list of events writes. -/
def frameCount : List OutEvent → Nat
  | [] => 0
  | .disp _ :: es => frameCount es + 1
  | .pin _ _ :: es => frameCount es

/-! ### Rules as relations -/

/-- The cooldown test of R156: from `s` it leaves `s'` and says `suppressed`. -/
inductive CooldownStep (s : State) : State → Bool → Prop
  | counted (hd : s.cfg.deb = .tickCounter) (h : s.cd ≠ 0#32) :
      CooldownStep s { s with cd := s.cd - 1#32 } true
  | idleCounter (hd : s.cfg.deb = .tickCounter) (h : s.cd = 0#32) : CooldownStep s s false
  | idleClock (hd : s.cfg.deb = .elapsedTime) (h : s.cdV = false) : CooldownStep s s false
  | expired (hd : s.cfg.deb = .elapsedTime) (h : s.cdV = true)
      (ht : s.cfg.cooldown.toNat ≤ (s.pass.env.now - s.cd).toNat) :
      CooldownStep s { s.pass with cdV := false } false
  | open_ (hd : s.cfg.deb = .elapsedTime) (h : s.cdV = true)
      (ht : (s.pass.env.now - s.cd).toNat < s.cfg.cooldown.toNat) : CooldownStep s s.pass true

/-- QD.UPDATE of R120 with no failing read: from `s` it leaves `s'` and returns a Rotation. -/
inductive DecodeStep (s : State) : State → Rotation → Prop
  | bounced (hp : s.cfg.qdPolicy = .immediateLevel) (hg : s.grants 1)
      (ha : s.pass.level .encA ≠ activeLevel s.cfg) : DecodeStep s s.pass .none
  | immediateHigh (hp : s.cfg.qdPolicy = .immediateLevel) (hg : s.grants 2)
      (ha : s.pass.level .encA = activeLevel s.cfg) (hb : s.pass.pass.level .encB = true) :
      DecodeStep s s.pass.pass .cw
  | immediateLow (hp : s.cfg.qdPolicy = .immediateLevel) (hg : s.grants 2)
      (ha : s.pass.level .encA = activeLevel s.cfg) (hb : s.pass.pass.level .encB = false) :
      DecodeStep s s.pass.pass .ccw
  | startHigh (hp : s.cfg.qdPolicy = .edgeLatched) (hg : s.grants 2)
      (ha : s.pass.level .encA = activeLevel s.cfg) (hb : s.pass.pass.level .encB = true) :
      DecodeStep s { s.pass.pass with qdPend := .cw } .none
  | startLow (hp : s.cfg.qdPolicy = .edgeLatched) (hg : s.grants 2)
      (ha : s.pass.level .encA = activeLevel s.cfg) (hb : s.pass.pass.level .encB = false) :
      DecodeStep s { s.pass.pass with qdPend := .ccw } .none
  | completed (hp : s.cfg.qdPolicy = .edgeLatched) (hg : s.grants 1)
      (ha : s.pass.level .encA ≠ activeLevel s.cfg) :
      DecodeStep s { s.pass with qdPend := .none } s.qdPend

/-- A qualifying encoder event records itself in the cooldown state (R158): from `s` it leaves `s'`. -/
inductive WindowOpened (s : State) : State → Prop
  | counter (hd : s.cfg.deb = .tickCounter) : WindowOpened s { s with cd := s.cfg.cooldown }
  | clock (hd : s.cfg.deb = .elapsedTime) :
      WindowOpened s { s.pass with cd := s.pass.env.now, cdV := true }

/-! ### The invariant of the block (R250) -/

/-- The port holds what the sequencer and the arbiter present in this context and nothing else (R104, R186). -/
def State.portInSequence (s : State) : Prop :=
  match s.ctx with
  | .reset => s.port = []
  | .fgOpen => s.port = []
  | .fgTick => s.port = [0x00#8, 0x41#8] ∨ s.port = [0x41#8]
  | .hEnc => s.port = [0x01#8, 0x41#8] ∨ s.port = [0x41#8]
  | .hHome => s.port = [0x02#8, 0x41#8] ∨ s.port = [0x41#8]
  | .hLimit => s.port = [0x03#8, 0x41#8] ∨ s.port = [0x41#8]
  | .halted => s.port = []

/-- The registers as reset leaves them (R240, "before CONSTRUCT"). -/
structure State.AsReset (s : State) : Prop where
  tgt : s.tgt = 0#32
  cur : s.cur = none
  cooldown : s.cd = 0#32 ∧ s.cdV = false
  qdPend : s.qdPend = .none
  ip : s.ip = 0#3
  maxh : s.maxh = 0#32
  lines : s.oDir = false ∧ s.oMs = 0b000#3
  disp : s.disp = .blank

/-- What holds once CONSTRUCT has completed and no fault has halted the block (R184, R250 (f), 10_state.md R31). -/
structure State.Built (s : State) : Prop where
  checks : failingCheck s.cfg = none
  maxh : s.maxh.toNat = maxSteps s.cfg
  mode : ∃ m, modeOfCode s.cfg.mode = some m ∧ 
    s.oMs = drivenModes (modeAccesses s.cfg) (modeLevels s.cfg m) 0b000#3

/-- The invariant of the block: R250 (a), (b), (c), (d), (f) and the hard-wired and unused bits of 10_state.md. -/
structure State.Inv (s : State) : Prop where
  /-- R186: only the sequencer and the arbiter make requests. -/
  port : s.portInSequence
  /-- R250 (c). -/
  masked : s.masked = true ↔ s.ctx ≠ .fgOpen
  /-- R250 (a). -/
  tgt : s.tgt.toNat ≤ s.maxh.toNat
  /-- R250 (b). -/
  cur : ∀ c, s.cur = some c → c.toNat ≤ s.maxh.toNat
  /-- R30, R203: a fault is latched exactly in HALTED. -/
  fault : s.ctx ≠ .halted → s.fault = 0x00#8
  latched : s.ctx = .halted → s.faultValid = true
  /-- R250 (d). -/
  driver : s.ctx ≠ .halted → s.oStep = false ∧ s.sgEn = false ∧ s.oEnN = true
  /-- R240: nothing is written before CONSTRUCT. -/
  asReset : s.ctx = .reset → s.AsReset
  /-- R184, R250 (f). -/
  built : s.ctx ≠ .reset → s.ctx ≠ .halted → s.Built
  /-- R29, R101: no limit source without the sensor. -/
  noLimit : s.cfg.hasLimit = false → s.ip.getLsbD 2 = false ∧ s.ctx ≠ .hLimit
  /-- R24: `qd_pend` is None under ImmediateLevel. -/
  qdPend : s.cfg.qdPolicy = .immediateLevel → s.qdPend = .none
  /-- R23: `cd_v` is 0 under TickCounter. -/
  cdV : s.cfg.deb = .tickCounter → s.cdV = false
  /-- R33: the height shown has two digits. -/
  disp : ∀ mm, s.disp = .frame (.height mm) → mm.toNat ≤ 99

end Sys2Proof.Machine
end

