-- ==== Sys2Proof/Certificates/Slice0/Obligations.lean ====
section
/-! DEFINITION. The statements for the provers. Each docstring names the rule of spec/ it formalises. -/

open Sys2Proof Sys2Proof.Machine

/-! ### Encoding -/

/-- From 30_encoding.md R91, R92, R97 and 20_memory.md R68: every well-formed operation is read back from its request,
whatever follows. -/
def Obligations.DecodeInvertsEncode : Prop :=
  ∀ (i : Instr) (rest : List Byte), i.wellFormed = true → decode (encode i ++ rest) = .op i rest

/-- From R97 and R100: what the decoder accepts is the encoding of the well-formed operation it answers, so that each
request has one meaning. -/
def Obligations.DecodedBytesAreTheEncoding : Prop :=
  ∀ (bytes rest : List Byte) (i : Instr), decode bytes = .op i rest → i.wellFormed = true ∧ bytes = encode i ++ rest

/-- From R100 (that requests stand on the port as a list of bytes is log 8): the reserved codes are exactly the ones
it lists; a request with one is refused; LIMIT_EDGE is refused in the same sense without the sensor; and the block's
own requesters never issue a reserved code. -/
def Obligations.ReservedCodesAreRefused : Prop :=
  (∀ (op : Byte) (rest : List Byte), decode (op :: rest) = .reserved op ↔
      (0x04 ≤ op.toNat ∧ op.toNat ≤ 0x0F) ∨ (0x11 ≤ op.toNat ∧ op.toNat ≤ 0x1F) ∨ (0x24 ≤ op.toNat ∧ op.toNat ≤ 0x27) ∨
      (0x2D ≤ op.toNat ∧ op.toNat ≤ 0x2F) ∨ (0x33 ≤ op.toNat ∧ op.toNat ≤ 0x3F) ∨ 0x43 ≤ op.toNat) ∧
  (∀ (s : State) (op : Byte) (rest : List Byte), s.port = op :: rest → decode (op :: rest) = .reserved op →
      step s = .refused (.reserved op)) ∧
  (∀ s : State, s.cfg.hasLimit = false → exec .limitEdge s = .refused .noLimitSensor) ∧
  (∀ s : State, s.port = [] → s.ctx ≠ .halted → s.presented.port ≠ [] ∧
    ∀ (op : Byte) (rest : List Byte), op ∈ s.presented.port → decode (op :: rest) ≠ .reserved op)

/-- From R97 and 95_test_vectors.md 2.1: requests written out from the patterns of R97 decode to the operations they
stand for. -/
def Obligations.WrittenRequestsDecode : Prop :=
  decode [0x03#8] = .op .limitEdge [] ∧ decode [0x10#8] = .op .qdUpdate [] ∧
  decode [0x23#8, 0x2C#8, 0x01#8, 0x00#8, 0x00#8] = .op (.sgRotate true 300#32) [] ∧
  decode [0x2B#8] = .op (.sgSetMode 3#3) [] ∧
  decode [0x32#8, 0x2D#8, 0x00#8, 0x00#8, 0x00#8] = .op (.dispHeight 45#32) [] ∧
  decode [0x40#8, 0x00#8, 0x41#8] = .op .csEnter [0x00#8, 0x41#8]

/-! ### Arithmetic (42_height_controller.md R150 to R154) -/

/-- R150, R151: the saturating increment and decrement of the target, as formulas and as exact results on naturals;
and no sequence of encoder events takes a target out of `[0, MAXH]`. -/
def Obligations.TargetSaturates : Prop :=
  ∀ maxh spm t : Word, t.toNat ≤ maxh.toNat →
    incTgt maxh spm t = (if (maxh - t).toNat < spm.toNat then maxh else t + spm) ∧
    (incTgt maxh spm t).toNat = min (t.toNat + spm.toNat) maxh.toNat ∧
    decTgt spm t = (if t.toNat < spm.toNat then 0#32 else t - spm) ∧
    (decTgt spm t).toNat = t.toNat - spm.toNat ∧
    ∀ events : List Bool,
      (events.foldl (fun u cw => if cw then incTgt maxh spm u else decTgt spm u) t).toNat ≤ maxh.toNat

/-- R152: the clamped step count of one TICK, and where the new height lies. -/
def Obligations.StepCountIsClamped : Prop :=
  ∀ spt c t : Word, c ≠ t → spt ≠ 0#32 →
    (stepCount spt c t).toNat = min spt.toNat (distance c t) ∧
    1 ≤ (stepCount spt c t).toNat ∧ (stepCount spt c t).toNat ≤ spt.toNat ∧
    (stepCount spt c t).toNat ≤ distance c t ∧
    (c.toNat < t.toNat → (c + stepCount spt c t).toNat = c.toNat + (stepCount spt c t).toNat ∧
      (c + stepCount spt c t).toNat ≤ t.toNat) ∧
    (t.toNat < c.toNat → (c - stepCount spt c t).toNat = c.toNat - (stepCount spt c t).toNat ∧
      t.toNat ≤ (c - stepCount spt c t).toNat)

/-- From R153 and R154: the frame that shows the state is Calibrating while Uncalibrated, else the target divided by
SPM, rounded down; a target within `MAX_MM * SPM` gives at most `MAX_MM`. -/
def Obligations.FrameShowsTargetInMillimetres : Prop :=
  ∀ s : State,
    (s.cur = none → frameOf s = .calibrating) ∧
    (s.cur ≠ none → s.cfg.spm ≠ 0#32 →
      ∃ mm : Word, frameOf s = .height mm ∧ mm.toNat = s.tgt.toNat / s.cfg.spm.toNat ∧
        (s.tgt.toNat ≤ s.cfg.maxMm.toNat * s.cfg.spm.toNat → mm.toNat ≤ s.cfg.maxMm.toNat))

/-! ### The QuadratureDecoder -/

/-- From R120 (that a request by itself shows its Rotation in `reply` is log 19): both policies of QD.UPDATE; its two
faults, with ENC_B not read after the first and `qd_pend` not written after the second; and its precondition. With two
granted reads one of the cases always applies. -/
def Obligations.QdUpdateDecodes : Prop :=
  encode .qdUpdate = [0x10#8] ∧
  (∀ (s s' : State) (r : Rotation), s.masked = true → s.ctx = .hEnc → DecodeStep s s' r →
    qdUpdate s = Run.ret r s' ∧ exec .qdUpdate s = .next { s' with reply := some r }) ∧
  (∀ s : State, s.grants 2 → ∃ s' r, DecodeStep s s' r) ∧
  (∀ s : State, s.masked = true → s.ctx = .hEnc → s.granted = false →
    exec .qdUpdate s = .next (s.pass.haltedWith 0xA4#8)) ∧
  (∀ s : State, s.masked = true → s.ctx = .hEnc → s.granted = true → s.pass.level .encA = activeLevel s.cfg →
    s.pass.granted = false → exec .qdUpdate s = .next (s.pass.pass.haltedWith 0xA5#8)) ∧
  (∀ s : State, ¬(s.masked = true ∧ s.ctx = .hEnc) → exec .qdUpdate s = .refused .illegalInContext)

/-! ### The StepGenerator -/

/-- From R133, R101 (as read in log 10, DEDUCED) and R203: SG.ENABLE, granted, failed and out of context. -/
def Obligations.SgEnableDrivesLineAndFlag : Prop :=
  encode .sgEnable = [0x21#8] ∧
  ∀ s : State,
    (s.InCall → s.granted = true → exec .sgEnable s =
      .next { s.pass with oEnN := false, sgEn := true, hist := s.hist ++ [.pin .enN false] }) ∧
    (s.InCall → s.granted = false → exec .sgEnable s = .next (s.pass.haltedWith 0xA2#8)) ∧
    (¬s.InCall → exec .sgEnable s = .refused .illegalInContext)

/-- From R134, R101 (as read in log 10, DEDUCED) and R203: SG.DISABLE, granted, failed and out of context. -/
def Obligations.SgDisableDrivesLineAndFlag : Prop :=
  encode .sgDisable = [0x20#8] ∧
  ∀ s : State,
    (s.InCall → s.granted = true → exec .sgDisable s =
      .next { s.pass with oEnN := true, sgEn := false, hist := s.hist ++ [.pin .enN true] }) ∧
    (s.InCall → s.granted = false → exec .sgDisable s = .next (s.pass.haltedWith 0xA2#8)) ∧
    (¬s.InCall → exec .sgDisable s = .refused .illegalInContext)

/-- From R132: SG.SET_MODE drives its lines one after the other from the mode table; a failure leaves the later lines
as they were; a second SG.SET_MODE of the same mode leaves every line's latch as it was. Where it may be requested is R101
as read in log 10 (DEDUCED). -/
def Obligations.SgSetModeDrivesLines : Prop :=
  ∀ (s : State) (m : BitVec 3) (mode : MicrostepMode), modeOfCode m = some mode →
    encode (.sgSetMode m) = [0b00101#5 ++ m] ∧
    (s.InCall → s.grants (modeAccesses s.cfg) → exec (.sgSetMode m) s =
      .next (s.modeDriven (modeLevels s.cfg mode) (modeAccesses s.cfg) (modeAccesses s.cfg))) ∧
    (∀ k, s.InCall → k < modeAccesses s.cfg → s.grants k → (s.passes k).granted = false → exec (.sgSetMode m) s =
      .next ((s.modeDriven (modeLevels s.cfg mode) k (k + 1)).haltedWith 0xA3#8)) ∧
    (¬s.InCall → exec (.sgSetMode m) s = .refused .illegalInContext) ∧
    (∀ t u, exec (.sgSetMode m) s = .next t → t.ctx ≠ .halted → exec (.sgSetMode m) t = .next u →
      u.oMs = t.oMs ∧ u.lines = t.lines)

/-- From R94 and R131 (whose table is PRESUMED, log 14): with three lines and no table given, the modes drive MS1,
MS2, MS3 with the default levels. -/
def Obligations.DefaultModeTable : Prop :=
  ∀ c : Cfg, c.nmode = 3#2 → c.modeTable = none →
    modeLevels c .full = 0b000#3 ∧ modeLevels c .half = 0b001#3 ∧ modeLevels c .quarter = 0b010#3 ∧
    modeLevels c .eighth = 0b011#3 ∧ modeLevels c .sixteenth = 0b111#3

/-- From R135 and R138: SG.ROTATE with no failing write: the direction, the enable line around the train if the driver
was disabled, and `steps` pulses, `steps = 0` included. Where it may be requested is R101 as read in log 10 (DEDUCED). -/
def Obligations.SgRotateEmitsTrain : Prop :=
  ∀ (s : State) (d : Bool) (steps : Word),
    encode (.sgRotate d steps) = (0b0010001#7 ++ BitVec.ofBool d) :: bytesOfWord steps ∧
    (s.InCall → s.grants (rotateAccesses s.sgEn steps.toNat) →
      exec (.sgRotate d steps) s = .next (s.rotated d steps.toNat)) ∧
    (s.InCall → s.grants (rotateAccesses s.sgEn steps.toNat) → s.sgEn = !s.oEnN →
      (s.rotated d steps.toNat).sgEn = s.sgEn ∧ (s.rotated d steps.toNat).oEnN = s.oEnN) ∧
    (¬s.InCall → exec (.sgRotate d steps) s = .refused .illegalInContext)

/-- From R136: a failing write aborts SG.ROTATE where it stands: the events are those before the failing one, the
lines keep the levels of the last successful writes, the fault names the line that failed, and nothing is restored;
and a body whose train fails so (TICK in either state, LIMIT_EDGE) does not update `cur`. -/
def Obligations.SgRotateAbortsOnFailure : Prop :=
  (∀ (s : State) (d : Bool) (steps : Word) (k : Nat) (p : OutPin) (b : Bool),
    s.InCall → s.grants k → (s.passes k).granted = false →
    (rotateEvents s.sgEn d steps.toNat)[k]? = some (.pin p b) →
    ∃ t : State, exec (.sgRotate d steps) s = .next t ∧ t.ctx = .halted ∧
      t.hist = s.hist ++ (rotateEvents s.sgEn d steps.toNat).take k ∧
      t.lines = ((rotateEvents s.sgEn d steps.toNat).take k).foldl Lines.after s.lines ∧
      t.sgEn = (s.sgEn || decide (2 ≤ k)) ∧
      (s.faultValid = false → t.fault = BlockFault.latch (.io (OutPin.role p))) ∧
      t = { ({ s.passes (k + 1) with
                oStep := t.oStep, oDir := t.oDir, oEnN := t.oEnN, sgEn := t.sgEn, hist := t.hist } : State) with
            fault := t.fault, ctx := .halted }) ∧
  (∀ (s s' t : State) (c : Word) (k : Nat), s.masked = true → s.ctx = .fgTick → CooldownStep s s' false →
    s.cur = some c → c ≠ s.tgt → k < rotateAccesses s.sgEn (stepCount s.cfg.spt c s.tgt).toNat →
    s'.grants k → (s'.passes k).granted = false → exec .tick s = .next t → t.ctx = .halted ∧ t.cur = s.cur) ∧
  (∀ (s s' t : State) (b : Bool) (k : Nat), CooldownStep s s' b → s.cur = none →
    k < rotateAccesses s.sgEn s.cfg.homingSteps.toNat →
    s'.grants k → (s'.passes k).granted = false → exec .tick s = .next t → t.ctx = .halted ∧ t.cur = none) ∧
  (∀ (s t : State) (k : Nat), s.cfg.limitOfs ≠ 0#32 → k < rotateAccesses s.sgEn s.cfg.limitOfs.toNat →
    s.grants k → (s.passes k).granted = false → exec .limitEdge s = .next t → t.ctx = .halted ∧ t.cur = s.cur)

/-- From R250 (g) and R37: where flag and enable line agree (R25), every step pulse that any operation makes is
effective. -/
def Obligations.EveryPulseIsEffective : Prop :=
  ∀ (i : Instr) (s t : State), s.sgEn = !s.oEnN → exec i s = .next t →
    ∃ events, t.hist = s.hist ++ events ∧ ∀ p ∈ pulses s.lines events, p.effective = true

/-! ### The display port -/

/-- From R195, R196, R101 and R203 (where it may be requested is R101 as read in log 10, DEDUCED; R196 lets a model
refuse 100 mm and more): DISP.UPDATE of each frame: the display takes it, or the operation raises the DisplayFault of
the kind the environment answers with, or it is out of context and refused. -/
def Obligations.DispUpdateWritesFrame : Prop :=
  encode .dispWelcome = [0x30#8] ∧ encode .dispCalibrating = [0x31#8] ∧
  (∀ mm : Word, encode (.dispHeight mm) = 0x32#8 :: bytesOfWord mm) ∧
  ∀ (i : Instr) (f : Frame),
    (i = .dispWelcome ∧ f = .welcome) ∨ (i = .dispCalibrating ∧ f = .calibrating) ∨
      (∃ mm : Word, mm.toNat ≤ 99 ∧ i = .dispHeight mm ∧ f = .height mm) →
    ∀ s : State,
      (s.InCall → s.granted = true → exec i s = .next (s.shown f)) ∧
      (∀ kind, s.InCall → s.cfg.ioFaults = true → s.instant.answer = .fails kind →
        exec i s = .next (s.pass.haltedWith (displayCode kind))) ∧
      (¬s.InCall → exec i s = .refused .illegalInContext)

/-- From R196 and 93_implementation_defined.md U3: a request to show 100 mm or more is refused. -/
def Obligations.ThreeDigitHeightsAreRefused : Prop :=
  ∀ (s : State) (mm : Word), 100 ≤ mm.toNat → exec (.dispHeight mm) s = .refused .heightBeyondDisplay

/-! ### TICK -/

/-- From R156: the cooldown test, in its five cases, one of which always applies; `COOLDOWN = 0` suppresses nothing;
and it gates the Tracking move alone: a suppressed TICK in Tracking does no more, a TICK in Uncalibrated homes
regardless. -/
def Obligations.CooldownGatesTrackingOnly : Prop :=
  (∀ (s s' : State) (b : Bool), CooldownStep s s' b → cooldownTest s = Run.ret b s') ∧
  (∀ s : State, ∃ s' b, CooldownStep s s' b) ∧
  (∀ (s s' : State) (b : Bool), CooldownStep s s' b → s.cfg.deb = .elapsedTime → s.cfg.cooldown = 0#32 → b = false) ∧
  (∀ s : State, s.cfg.deb = .tickCounter → s.cfg.cooldown = 0#32 →
    ∀ s', WindowOpened s s' → CooldownStep s' s' false) ∧
  (∀ (s s' : State) (c : Word), s.masked = true → s.ctx = .fgTick → CooldownStep s s' true → s.cur = some c →
    exec .tick s = .next s') ∧
  (∀ (s s' : State) (b : Bool), CooldownStep s s' b → s.cur = none → tickBody s = tickHoming s')

/-- From R157 and R162 (a): TICK at the target advances the cooldown state and does nothing else. -/
def Obligations.TickAtTargetIsIdle : Prop :=
  ∀ (s s' : State) (b : Bool), s.masked = true → s.ctx = .fgTick → CooldownStep s s' b → s.cur = some s.tgt →
    exec .tick s = .next s' ∧ s'.tgt = s.tgt ∧ s'.cur = s.cur ∧ s'.lines = s.lines ∧ s'.oMs = s.oMs ∧
      s'.disp = s.disp ∧ s'.hist = s.hist

/-- From R152, R157 and R162 (b), (c): a Tracking TICK off the target that is not suppressed makes one train of
`min(SPT, |cur - tgt|)` steps, away from home when `cur < tgt` and toward home otherwise, and moves `cur` by as much.
-/
def Obligations.TickMovesTowardTarget : Prop :=
  ∀ (s s' : State) (c : Word) (n : Nat), s.masked = true → s.ctx = .fgTick → CooldownStep s s' false →
    s.cur = some c → c ≠ s.tgt → n = min s.cfg.spt.toNat (distance c s.tgt) →
    s'.grants (rotateAccesses s.sgEn n) →
    ∃ c' : Word,
      c'.toNat = (if c.toNat < s.tgt.toNat then c.toNat + n else c.toNat - n) ∧
      exec .tick s = .next
        { s'.rotated (if c.toNat < s.tgt.toNat then !s.cfg.dirHome else s.cfg.dirHome) n with cur := some c' }

/-- From R157 and R161: an Uncalibrated TICK makes the homing step and then samples HOME. If the read fails the block
halts with IoFault(home), the train's events done and the state still Uncalibrated (R203, vector VH19); if it reads 0
nothing more happens; if it reads 1 the height is `HOME_OFS` and the target is shown. -/
def Obligations.TickHomesAndCalibrates : Prop :=
  ∀ (s s' w u : State) (b : Bool), s.masked = true → s.ctx = .fgTick → CooldownStep s s' b → s.cur = none →
    s'.grants (rotateAccesses s.sgEn s.cfg.homingSteps.toNat) →
    w = s'.rotated s.cfg.dirHome s.cfg.homingSteps.toNat → u = w.pass →
    (w.granted = false → exec .tick s = .next (u.haltedWith 0xA6#8) ∧ u.cur = none ∧ u.tgt = s.tgt ∧ u.disp = s.disp ∧
      u.hist = s.hist ++ rotateEvents s.sgEn s.cfg.dirHome s.cfg.homingSteps.toNat) ∧
    (w.granted = true → u.level .home = false → exec .tick s = .next u) ∧
    (∀ mm : Word, w.granted = true → u.level .home = true → u.granted = true → s.cfg.spm ≠ 0#32 →
      mm.toNat = s.tgt.toNat / s.cfg.spm.toNat → mm.toNat ≤ 99 →
      exec .tick s = .next { u.shown (.height mm) with cur := some s.cfg.homeOfs }) ∧
    (∀ kind, w.granted = true → u.level .home = true → s.cfg.ioFaults = true → u.instant.answer = .fails kind →
      exec .tick s = .next (({ u.pass with cur := some s.cfg.homeOfs } : State).haltedWith (displayCode kind)))

/-- From R161 (c): a TICK ends Uncalibrated only if its own read of HOME returned 1, and then with `cur = HOME_OFS`.
-/
def Obligations.CalibrationNeedsHome : Prop :=
  ∀ (s s' t : State) (b : Bool), CooldownStep s s' b → exec .tick s = .next t → s.cur = none → t.cur ≠ none →
    t.cur = some s.cfg.homeOfs ∧
    (s'.passes (rotateAccesses s.sgEn s.cfg.homingSteps.toNat + 1)).level .home = true

/-- R163: from `cur = c`, `tgt = t` with `c ≠ t`, TICKs in a row of which the first is not suppressed (none is then),
with no fault and nothing between, bring the distance down by `SPT` each, and exactly `⌈|c - t| / SPT⌉` of them make
`cur = t`: no fewer do. -/
def Obligations.TicksConvergeToTarget : Prop :=
  ∀ (s s' : State) (c : Word), s.masked = true → s.ctx = .fgTick → s.cur = some c → c ≠ s.tgt → s.cfg.spt ≠ 0#32 →
    (∀ n, s.grants n) → CooldownStep s s' false →
    (∀ j : Nat, ∃ (t : State) (c' : Word), tickRun j s = some t ∧ t.cur = some c' ∧ t.tgt = s.tgt ∧
      distance c' s.tgt = distance c s.tgt - j * s.cfg.spt.toNat ∧
      min c.toNat s.tgt.toNat ≤ c'.toNat ∧ c'.toNat ≤ max c.toNat s.tgt.toNat) ∧
    (∀ j : Nat, (∃ t : State, tickRun j s = some t ∧ t.cur = some s.tgt) ↔
      (distance c s.tgt + s.cfg.spt.toNat - 1) / s.cfg.spt.toNat ≤ j)

/-- From R37, R162 (b) and R250 (h): the height a Tracking TICK records moves exactly as far as its effective pulses
move the motor. -/
def Obligations.TickRecordsTheMotion : Prop :=
  ∀ (s t : State) (c : Word), exec .tick s = .next t → s.cur = some c → s.oStep = false → s.sgEn = !s.oEnN →
    t.ctx ≠ .halted →
    ∃ (events : List OutEvent) (c' : Word), t.hist = s.hist ++ events ∧ t.cur = some c' ∧
      (c'.toNat : Int) - c.toNat = displacement s.cfg.dirHome (pulses s.lines events)

/-! ### The interrupt handlers' bodies -/

/-- From R124, R158 and R164 (a): ENC_EDGE that decodes None changes nothing beyond what QD.UPDATE did. -/
def Obligations.EncEdgeWithoutRotation : Prop :=
  ∀ s s' : State, s.masked = true → s.ctx = .hEnc → DecodeStep s s' .none →
    exec .encEdge s = .next s' ∧ s'.tgt = s.tgt ∧ s'.cd = s.cd ∧ s'.cdV = s.cdV ∧ s'.disp = s.disp ∧ s'.hist = s.hist

/-- From R150, R151, R158 and R164: ENC_EDGE that decodes CW or CCW moves the target by `SPM`, saturating, opens the
cooldown window also where the target does not move, and refreshes the display only where it does. -/
def Obligations.EncEdgeTurnsTarget : Prop :=
  ∀ (s s1 s2 : State) (r : Rotation) (t' : Word), s.masked = true → s.ctx = .hEnc → DecodeStep s s1 r → r ≠ .none →
    s.tgt.toNat ≤ s.maxh.toNat →
    t'.toNat = (if r = .cw then min (s.tgt.toNat + s.cfg.spm.toNat) s.maxh.toNat else s.tgt.toNat - s.cfg.spm.toNat) →
    WindowOpened { s1 with tgt := t' } s2 →
    (t' = s.tgt → exec .encEdge s = .next s2) ∧
    (t' ≠ s.tgt → s.cur = none → s2.granted = true → exec .encEdge s = .next (s2.shown .calibrating)) ∧
    (∀ mm : Word, t' ≠ s.tgt → s.cur ≠ none → s2.granted = true → s.cfg.spm ≠ 0#32 →
      mm.toNat = t'.toNat / s.cfg.spm.toNat → mm.toNat ≤ 99 → exec .encEdge s = .next (s2.shown (.height mm))) ∧
    (∀ kind, t' ≠ s.tgt → s.cfg.ioFaults = true → s2.instant.answer = .fails kind →
      exec .encEdge s = .next (s2.pass.haltedWith (displayCode kind)))

/-- From R120, R124, R158 and R203 (vectors VQ16, VQ17): a read of QD.UPDATE that fails inside ENC_EDGE halts the block
with IoFault(encA), ENC_B not read, or IoFault(encB), and ENC_EDGE writes nothing. -/
def Obligations.EncEdgeReadFails : Prop :=
  ∀ s t : State, s.masked = true → s.ctx = .hEnc →
    (s.granted = false ∧ t = s.pass.haltedWith 0xA4#8) ∨
      (s.granted = true ∧ s.pass.level .encA = activeLevel s.cfg ∧ s.pass.granted = false ∧
        t = s.pass.pass.haltedWith 0xA5#8) →
    exec .encEdge s = .next t ∧ t.ctx = .halted ∧ t.tgt = s.tgt ∧ t.cur = s.cur ∧ t.cd = s.cd ∧ t.cdV = s.cdV ∧
      t.qdPend = s.qdPend ∧ t.disp = s.disp ∧ t.hist = s.hist

/-- R159: HOME_EDGE forces recalibration and shows Calibrating, from any prior value; it writes nothing else. -/
def Obligations.HomeEdgeForcesRecalibration : Prop :=
  encode .homeEdge = [0x02#8] ∧
  ∀ s : State,
    (s.masked = true → s.ctx = .hHome → s.granted = true →
      exec .homeEdge s = .next { s.shown .calibrating with cur := none }) ∧
    (∀ kind, s.masked = true → s.ctx = .hHome → s.cfg.ioFaults = true → s.instant.answer = .fails kind →
      exec .homeEdge s = .next (({ s.pass with cur := none } : State).haltedWith (displayCode kind))) ∧
    (¬(s.masked = true ∧ s.ctx = .hHome) → exec .homeEdge s = .refused .illegalInContext)

/-- R160: LIMIT_EDGE makes the compensating move if the offset is positive, then records the offset as height and
target and shows it; a failure in the move leaves height and target, a display failure comes after they are written.
-/
def Obligations.LimitEdgeRecordsOffset : Prop :=
  encode .limitEdge = [0x03#8] ∧
  ∀ (s s' : State), s.cfg.hasLimit = true →
    s' = (if s.cfg.limitOfs = 0#32 then s else s.rotated (!s.cfg.dirHome) s.cfg.limitOfs.toNat) →
    (∀ mm : Word, s.masked = true → s.ctx = .hLimit →
      (s.cfg.limitOfs ≠ 0#32 → s.grants (rotateAccesses s.sgEn s.cfg.limitOfs.toNat)) → s'.granted = true →
      s.cfg.spm ≠ 0#32 → mm.toNat = s.cfg.limitOfs.toNat / s.cfg.spm.toNat → mm.toNat ≤ 99 →
      exec .limitEdge s = .next { s'.shown (.height mm) with cur := some s.cfg.limitOfs, tgt := s.cfg.limitOfs }) ∧
    (∀ kind, s.masked = true → s.ctx = .hLimit →
      (s.cfg.limitOfs ≠ 0#32 → s.grants (rotateAccesses s.sgEn s.cfg.limitOfs.toNat)) →
      s.cfg.ioFaults = true → s'.instant.answer = .fails kind →
      exec .limitEdge s = .next
        (({ s'.pass with cur := some s.cfg.limitOfs, tgt := s.cfg.limitOfs } : State).haltedWith (displayCode kind))) ∧
    (∀ k, s.masked = true → s.ctx = .hLimit → s.cfg.limitOfs ≠ 0#32 →
      k < rotateAccesses s.sgEn s.cfg.limitOfs.toNat → s.grants k → (s.passes k).granted = false →
      ∃ t p b, exec .limitEdge s = .next t ∧ t.ctx = .halted ∧ t.cur = s.cur ∧ t.tgt = s.tgt ∧ t.disp = s.disp ∧
        t.hist = s.hist ++ (rotateEvents s.sgEn (!s.cfg.dirHome) s.cfg.limitOfs.toNat).take k ∧
        (rotateEvents s.sgEn (!s.cfg.dirHome) s.cfg.limitOfs.toNat)[k]? = some (.pin p b) ∧
        (s.faultValid = false → t.fault = BlockFault.latch (.io (OutPin.role p)))) ∧
    (¬(s.masked = true ∧ s.ctx = .hLimit) → exec .limitEdge s = .refused .illegalInContext)

/-- From R166 (a) and 44_display_port.md R197: no operation writes more than one frame. -/
def Obligations.AtMostOneFrame : Prop :=
  ∀ (i : Instr) (s t : State), exec i s = .next t →
    ∃ events, t.hist = s.hist ++ events ∧ frameCount events ≤ 1

/-! ### System operations -/

/-- From R180: CS.ENTER sets the mask and nothing else, or is refused. -/
def Obligations.CsEnterMasks : Prop :=
  encode .csEnter = [0x40#8] ∧
  ∀ s : State,
    (s.masked = false → s.ctx ≠ .halted → exec .csEnter s = .next { s with masked := true }) ∧
    (¬(s.masked = false ∧ s.ctx ≠ .halted) → exec .csEnter s = .refused .illegalInContext)

/-- From R181: CS.EXIT clears the mask and nothing else, or is refused. -/
def Obligations.CsExitUnmasks : Prop :=
  encode .csExit = [0x41#8] ∧
  ∀ s : State,
    (s.masked = true → s.ctx ≠ .halted → exec .csExit s = .next { s with masked := false }) ∧
    (¬(s.masked = true ∧ s.ctx ≠ .halted) → exec .csExit s = .refused .illegalInContext)

/-- R182: CONSTRUCT writes the registers, drives the mode lines, shows Welcome, arms the edge detectors and unmasks;
the first failing check, a failing mode line or a failing frame halts it, after what came before. -/
def Obligations.ConstructBuildsController : Prop :=
  encode .construct = [0x42#8] ∧
  (∀ (s : State) (k : Nat), s.masked = true → s.ctx = .reset → failingCheck s.cfg = some k →
    exec .construct s = .next (s.haltedWith (0xE0#8 + BitVec.ofNat 8 k))) ∧
  (∀ (s s0 : State) (mode : MicrostepMode), s.masked = true → s.ctx = .reset → failingCheck s.cfg = none →
    modeOfCode s.cfg.mode = some mode →
    s0 = { s with maxh := BitVec.ofNat 32 (s.cfg.maxMm.toNat * s.cfg.spm.toNat), tgt := s.cfg.initTgt, cur := none,
                  cd := 0#32, cdV := false, qdPend := .none, sgEn := false } →
    (∀ w, w = s0.modeDriven (modeLevels s.cfg mode) (modeAccesses s.cfg) (modeAccesses s.cfg) →
      s.grants (modeAccesses s.cfg) →
      (w.granted = true →
        exec .construct s = .next { w.shown .welcome with ip := 0#3, ctx := .fgOpen, masked := false }) ∧
      (∀ kind, s.cfg.ioFaults = true → w.instant.answer = .fails kind →
        exec .construct s = .next (w.pass.haltedWith (displayCode kind)))) ∧
    (∀ k, k < modeAccesses s.cfg → s.grants k → (s.passes k).granted = false →
      exec .construct s = .next ((s0.modeDriven (modeLevels s.cfg mode) k (k + 1)).haltedWith 0xA3#8))) ∧
  (∀ s : State, failingCheck s.cfg = none → ∃ mode, modeOfCode s.cfg.mode = some mode) ∧
  (∀ s : State, ¬(s.masked = true ∧ s.ctx = .reset) → exec .construct s = .refused .illegalInContext)

/-- R184: the nine configuration checks, in order; CONSTRUCT raises ConfigurationError of the first that fails. -/
def Obligations.ConfigurationChecks : Prop :=
  ∀ c : Cfg,
    (∀ k, failingCheck c = some k ↔ 1 ≤ k ∧ k ≤ 9 ∧ checkFails c k = true ∧ ∀ j, 1 ≤ j → j < k → checkFails c j = false) ∧
    (failingCheck c = none ↔ ∀ k, 1 ≤ k → k ≤ 9 → checkFails c k = false) ∧
    (checkFails c 1 = true ↔ c.spm.toNat = 0) ∧
    (checkFails c 2 = true ↔ c.spt.toNat = 0) ∧
    (checkFails c 3 = true ↔ c.maxMm.toNat * c.spm.toNat ≥ 2 ^ 32) ∧
    (checkFails c 4 = true ↔ c.maxMm.toNat > 99) ∧
    (checkFails c 5 = true ↔ c.initTgt.toNat > c.maxMm.toNat * c.spm.toNat) ∧
    (checkFails c 6 = true ↔ c.homeOfs.toNat > c.maxMm.toNat * c.spm.toNat) ∧
    (checkFails c 7 = true ↔ c.hasLimit = true ∧ c.limitOfs.toNat > c.maxMm.toNat * c.spm.toNat) ∧
    (checkFails c 8 = true ↔ c.homingSteps.toNat = 0) ∧
    (checkFails c 9 = true ↔
      c.mode.toNat > 4 ∨ (c.nmode.toNat ≠ 2 ∧ c.nmode.toNat ≠ 3) ∨ (c.nmode.toNat = 2 ∧ c.modeTable = none)) ∧
    (∀ (s : State) (k : Nat), s.cfg = c → s.masked = true → s.ctx = .reset → failingCheck c = some k →
      exec .construct s = .next (s.haltedWith (0xE0#8 + BitVec.ofNat 8 k)))

/-! ### Faults -/

/-- From R203 and R101 (that a step in HALTED with no request is a fault of the model is log 18; that the port is empty
after a fault, log 9): fault entry, and HALTED is absorbing: no step and no operation leaves it, and a request in it is
refused; every raising operation had the mask set, which it keeps, and the latch holds a fault. -/
def Obligations.FaultHaltsTheBlock : Prop :=
  (∀ (s : State) (f : BlockFault), s.takeFault f =
    { s with fault := if s.faultValid then s.fault else 1#1 ++ BlockFault.cls f ++ BlockFault.tag f, ctx := .halted }) ∧
  (∀ s : State, s.ctx = .halted → s.port = [] → step s = .fault (.halted s.fault)) ∧
  (∀ s : State, s.ctx = .halted → s.port ≠ [] → ∃ r, step s = .refused r) ∧
  (∀ s t : State, step s = .next t → t.ctx = .halted → t.port = []) ∧
  (∀ (i : Instr) (s t : State), exec i s = .next t → t.ctx = .halted →
    s.ctx ≠ .halted ∧ s.masked = true ∧ t.masked = true ∧ t.faultValid = true ∧ (s.faultValid = true → t.fault = s.fault))

/-- From R96 and R201: from a state with no fault an operation either leaves the latch clear, or halts with one of the
codes R201 lists for it; in particular none raises IoFault(limit). -/
def Obligations.OnlyListedFaultsAreRaised : Prop :=
  ∀ (i : Instr) (s t : State), s.fault = 0x00#8 → exec i s = .next t →
    (t.ctx ≠ .halted ∧ t.fault = 0x00#8) ∨ (t.ctx = .halted ∧ t.fault ∈ raisable i)

/-- R101: the operations that are illegal in context are refused: a body opcode with `masked = 0` or, as its `require`
says (R157 to R160), outside its own context, CS.ENTER with `masked = 1`, CS.EXIT with `masked = 0`, CONSTRUCT outside
RESET, a unit 1, 2 or 3 operation outside a body or CONSTRUCT, and anything in HALTED, the request that a step finds on
the port there as well. -/
def Obligations.IllegalInContextIsRefused : Prop :=
  ∀ s : State,
    (s.masked = false → ∀ i ∈ [Instr.tick, .encEdge, .homeEdge, .limitEdge], ∃ r, exec i s = .refused r) ∧
    (¬(s.masked = true ∧ s.ctx = .fgTick) → exec .tick s = .refused .illegalInContext) ∧
    (¬(s.masked = true ∧ s.ctx = .hEnc) → exec .encEdge s = .refused .illegalInContext ∧
      exec .qdUpdate s = .refused .illegalInContext) ∧
    (¬(s.masked = true ∧ s.ctx = .hHome) → exec .homeEdge s = .refused .illegalInContext) ∧
    (¬(s.masked = true ∧ s.ctx = .hLimit) → ∃ r, exec .limitEdge s = .refused r) ∧
    (s.masked = true → ∃ r, exec .csEnter s = .refused r) ∧
    (s.masked = false → ∃ r, exec .csExit s = .refused r) ∧
    (s.ctx ≠ .reset → ∃ r, exec .construct s = .refused r) ∧
    (s.masked = false ∨ s.ctx = .fgOpen → ∀ i : Instr,
      (i = .qdUpdate ∨ i = .sgDisable ∨ i = .sgEnable ∨ (∃ d n, i = .sgRotate d n) ∨ (∃ m, i = .sgSetMode m) ∨
        i = .dispWelcome ∨ i = .dispCalibrating ∨ (∃ mm, i = .dispHeight mm)) → ∃ r, exec i s = .refused r) ∧
    (s.ctx = .halted → ∀ i : Instr, ∃ r, exec i s = .refused r) ∧
    (s.ctx = .halted → ∀ (i : Instr) (rest : List Byte), decode s.port = .op i rest → ∃ r, step s = .refused r)

/-! ### Interrupts -/

/-- From R211 (whose latch the spec supplies from general knowledge, log 15): the environment moves its pins one after
the other; a selected transition sets the latch of its source and no other, whatever `masked` is, except in RESET and
HALTED; a set latch stays set; no transition, no latch; and from outside RESET nothing but the dispatch of a source
clears its latch. -/
def Obligations.EdgesSetPendingLatches : Prop :=
  (∀ (c : Cfg) (armed : Bool) (x : Pins) (m : PinMove),
    (Levels.get x.levels m.pin = m.level → x.move c armed m = x) ∧
    (Levels.get x.levels m.pin ≠ m.level →
      (x.move c armed m).levels = Levels.set x.levels m.pin m.level ∧
      ∀ n : Source, (x.move c armed m).ip.getLsbD (Source.index n) =
        (x.ip.getLsbD (Source.index n) || (armed && decide (sensedBy c m.pin m.level = some n))))) ∧
  (∀ (c : Cfg) (p : InPin) (new : Bool) (n : Source), sensedBy c p new = some n ↔
    (n = .enc ∧ p = .encA ∧ (c.qdPolicy = .edgeLatched ∨ (new = true ↔ c.aEdge = .rising))) ∨
    (n = .home ∧ p = .home ∧ (c.homeEdgeSel = .both ∨ (c.homeEdgeSel = .rising ∧ new = true) ∨
      (c.homeEdgeSel = .falling ∧ new = false))) ∨
    (n = .limit ∧ p = .limit ∧ c.hasLimit = true ∧ (c.limitEdgeSel = .both ∨ (c.limitEdgeSel = .rising ∧ new = true) ∨
      (c.limitEdgeSel = .falling ∧ new = false)))) ∧
  (∀ s : State, s.armed = true ↔ s.ctx ≠ .reset ∧ s.ctx ≠ .halted) ∧
  (∀ s : State, ({ levels := s.pass.env.levels, ip := s.pass.ip } : Pins) =
    s.instant.moves.foldl (Pins.move s.cfg s.armed) { levels := s.env.levels, ip := s.ip }) ∧
  (∀ (s t : State) (n : Source), s.ctx ≠ .reset → step s = .next t → s.ip.getLsbD (Source.index n) = true →
    t.ip.getLsbD (Source.index n) = false → s.ctx = .fgOpen ∧ s.masked = false ∧ t.ctx = Source.ctx n)

/-- From R73 (the latch is log 15, the moments log 7): by the end of a body any subset of the latches can be set, that of
LIMIT only with its sensor: at the end of any step outside RESET and HALTED; at the end of a TICK that makes no access
at all; and at the return or the end of tick, so that they are pending in FG_OPEN. -/
def Obligations.EdgesPendByEndOfBody : Prop :=
  ∀ (s : State) (x : BitVec 3), (s.cfg.hasLimit = false → x.getLsbD 2 = false) →
    (s.ctx ≠ .reset → s.ctx ≠ .halted → ∃ e : Env, ({ s with env := e } : State).settled.ip = s.ip ||| x) ∧
    (s.masked = true → s.ctx = .fgTick → s.port = [0x00#8, 0x41#8] → s.cfg.deb = .tickCounter → s.cur = some s.tgt →
      ∃ (e : Env) (t : State), step { s with env := e } = .next t ∧ t.ctx = .fgTick ∧ t.port = [0x41#8] ∧
        t.ip = s.ip ||| x) ∧
    (s.masked = true → s.ctx.isBody = true → s.port = [0x41#8] →
      ∃ (e : Env) (t : State), step { s with env := e } = .next t ∧ t.ctx = .fgOpen ∧ t.masked = false ∧
        t.ip = s.ip ||| x)

/-- From R213: the arbiter chooses a pending source whenever there is one; under `Any` every pending source can be
chosen; under an order the pending source that comes first is. -/
def Obligations.ArbiterChoosesPending : Prop :=
  ∀ s : State,
    (∀ choice n, s.chosen choice = some n → s.isPending n = true) ∧
    (∀ choice, s.chosen choice = none ↔ ∀ n, s.isPending n = false) ∧
    (s.cfg.arb = .any → ∀ n, s.isPending n = true → ∃ choice, s.chosen choice = some n) ∧
    (s.cfg.arb ≠ .any → ∀ choice n m, s.chosen choice = some n → s.isPending m = true →
      (arbOrder s.cfg.arb).idxOf n ≤ (arbOrder s.cfg.arb).idxOf m)

/-- From R214 (one step with its CS.ENTER, log 9; the latch, log 15): the dispatch of the chosen source is one atomic
step: its latch is cleared, the mask is set, the context is its handler's, nothing else of the block changes, and its
body is what runs next. Then the environment acts (R73, log 7). -/
def Obligations.DispatchEntersHandler : Prop :=
  ∀ (s : State) (n : Source), s.ctx = .fgOpen → s.masked = false → s.port = [] →
    s.chosen s.instant.choice = some n →
    step s = .next ({ s with ip := s.ip &&& ~~~ Source.bit n, masked := true, ctx := Source.ctx n,
                             port := [BitVec.ofNat 8 (Source.index n + 1), 0x41#8] } : State).pass ∧
    decode [BitVec.ofNat 8 (Source.index n + 1), 0x41#8] =
      .op (match n with | .enc => .encEdge | .home => .homeEdge | .limit => .limitEdge) [0x41#8]

/-- From R215 (one step with its CS.EXIT, log 9): the return from a handler is one atomic step that opens the mask and
restores nothing, and no other step of a handler opens the mask. Then the environment acts (R73, log 7). -/
def Obligations.HandlerReturns : Prop :=
  ∀ s : State, s.ctx = .hEnc ∨ s.ctx = .hHome ∨ s.ctx = .hLimit → s.masked = true →
    (s.port = [0x41#8] ∨ s.port = [] →
      step s = .next ({ s with masked := false, ctx := .fgOpen, port := [] } : State).pass) ∧
    (∀ t, step s = .next t → t.masked = false → t.ctx = .fgOpen ∧ (s.port = [] ∨ s.port.head? = some 0x41#8))

/-- From R217 (one step with its CS.ENTER and CS.EXIT, log 9): with nothing pending the foreground begins a tick,
whose body runs next, and ends it when the body is served; with a source pending it does not begin one. At the end of
each of these steps the environment acts (R73, log 7). -/
def Obligations.ForegroundTicks : Prop :=
  (∀ s : State, s.ctx = .fgOpen → s.masked = false → s.port = [] → s.pendingBits = 0b000#3 →
    step s = .next ({ s with masked := true, ctx := .fgTick, port := [0x00#8, 0x41#8] } : State).pass) ∧
  decode [0x00#8, 0x41#8] = .op .tick [0x41#8] ∧
  (∀ s t : State, s.ctx = .fgOpen → s.port = [] → s.pendingBits ≠ 0b000#3 → step s = .next t → t.ctx ≠ .fgTick) ∧
  (∀ s : State, s.ctx = .fgTick → s.masked = true → s.port = [0x41#8] ∨ s.port = [] →
    step s = .next ({ s with masked := false, ctx := .fgOpen, port := [] } : State).pass)

/-- From R212 and R216: a step from inside a body stays in that body, returns to the foreground or halts; a body is
entered from FG_OPEN with the mask open and from nowhere else. -/
def Obligations.BodiesAreMutuallyExclusive : Prop :=
  ∀ s t : State, step s = .next t →
    (s.ctx.isBody = true → t.ctx = s.ctx ∨ t.ctx = .fgOpen ∨ t.ctx = .halted) ∧
    (t.ctx.isBody = true → t.ctx ≠ s.ctx → s.ctx = .fgOpen ∧ s.masked = false ∧ t.masked = true)

/-! ### The step, reset, and whole-machine invariants -/

/-- From 30_encoding.md R90, R97 and R104: the step runs the decoded operation: with a request on the port, the step is
the operation's meaning with the port moved past the request, its refusal the step's; around CS.ENTER and CS.EXIT alone
the sequencer adds the entry and the return that R104 says go with them (log 9); and at the end of the step the
environment acts (R73, log 7), on an emptied port if the block has halted (R203, log 9). -/
def Obligations.StepRunsDecodedOperation : Prop :=
  (∀ (s : State) (i : Instr) (rest : List Byte), decode s.port = .op i rest →
    (∀ t : State, exec i { s with port := rest } = .next t →
      (i ≠ .csEnter → i ≠ .csExit → step s = .next t.settled) ∧
      (i = .csEnter → step s = .next t.afterEnter.settled) ∧
      (i = .csExit → step s = .next t.afterExit.settled)) ∧
    (∀ r : Refusal, exec i { s with port := rest } = .refused r → step s = .refused r) ∧
    (∀ f : Fault, exec i { s with port := rest } ≠ .fault f)) ∧
  (∀ t : State, t.ctx ≠ .halted → t.settled = t.pass) ∧
  (∀ t : State, t.ctx = .halted → t.settled = ({ t with port := [] } : State).pass)

/-- From R240: the registers whose reset value the spec gives hold it right after reset, in every configuration. The
first clause, which configuration `State.reset` is strapped with, is no rule of the spec: it is the model's choice
(DESIGN CHOICE, log 2), and that the configuration stands in State is log 2 too. (The values of `tgt` and `maxh` there
are the model's choice, log 5, and are not stated.) -/
def Obligations.ResetValues : Prop :=
  State.reset = State.resetWith Cfg.reference ∧
  ∀ c : Cfg, ∀ s, s = State.resetWith c →
    s.cur = none ∧ s.cd = 0#32 ∧ s.cdV = false ∧ s.qdPend = .none ∧ s.sgEn = false ∧ s.masked = true ∧ s.ip = 0b000#3 ∧
    s.fault = 0x00#8 ∧ s.ctx = .reset ∧ s.oStep = false ∧ s.oDir = false ∧ s.oEnN = true ∧ s.oMs = 0b000#3 ∧
    s.disp = .blank ∧ s.cfg = c

/-- From R241 (that the step presents it itself is log 8): the first step after reset is CONSTRUCT, and it runs: it
answers a next state, on which the environment then acts (R73, log 7). -/
def Obligations.FirstStepIsConstruct : Prop :=
  ∀ c : Cfg, ∃ t, exec .construct (State.resetWith c) = .next t ∧ step (State.resetWith c) = .next t.settled

/-- From R240 and R250: the invariant of the block holds right after reset, in every configuration. (That `tgt` and
`maxh` are 0 there is the model's choice, log 5.) -/
def Obligations.InvariantHoldsAtReset : Prop :=
  ∀ c : Cfg, (State.resetWith c).Inv

/-- From R250 (a), (b), (c), (d), (f): every step keeps the invariant of the block, from every state that has it.
(That the port holds only what the sequencer presents is log 8, and that a fault empties it log 9; that `tgt` and `maxh` are 0 before CONSTRUCT is log
5.) -/
def Obligations.StepKeepsInvariant : Prop :=
  ∀ s t : State, s.Inv → step s = .next t → t.Inv

/-- From 10_state.md R31: no operation writes a configuration register, and only CONSTRUCT writes MAXH. -/
def Obligations.ConfigurationIsNeverWritten : Prop :=
  (∀ s t : State, step s = .next t → t.cfg = s.cfg) ∧
  (∀ (i : Instr) (s t : State), exec i s = .next t → t.cfg = s.cfg ∧ (i ≠ .construct → t.maxh = s.maxh))

/-- From R37 and 20_memory.md R63, R64: a step only appends to the event history. -/
def Obligations.HistoryOnlyGrows : Prop :=
  ∀ s t : State, step s = .next t → ∃ events, t.hist = s.hist ++ events

/-- From R21 to R25: the data registers and the enable flag change only under the operations that R21 to R25 name for
them. -/
def Obligations.DataRegisterFrames : Prop :=
  ∀ (i : Instr) (s t : State), exec i s = .next t →
    (i ≠ .encEdge → i ≠ .limitEdge → i ≠ .construct → t.tgt = s.tgt) ∧
    (i ≠ .tick → i ≠ .homeEdge → i ≠ .limitEdge → i ≠ .construct → t.cur = s.cur) ∧
    (i ≠ .tick → i ≠ .encEdge → i ≠ .construct → t.cd = s.cd ∧ t.cdV = s.cdV) ∧
    (i ≠ .qdUpdate → i ≠ .encEdge → i ≠ .construct → t.qdPend = s.qdPend) ∧
    (i ≠ .tick → i ≠ .limitEdge → i ≠ .sgEnable → i ≠ .sgDisable → (∀ d n, i ≠ .sgRotate d n) → i ≠ .construct →
      t.sgEn = s.sgEn)

/-- From R32, R33 and R61: each output latch and the display change only under the operations that write their port.
-/
def Obligations.OutputLatchFrames : Prop :=
  ∀ (i : Instr) (s t : State), exec i s = .next t →
    (i ≠ .tick → i ≠ .limitEdge → (∀ d n, i ≠ .sgRotate d n) → t.oStep = s.oStep ∧ t.oDir = s.oDir) ∧
    (i ≠ .tick → i ≠ .limitEdge → i ≠ .sgEnable → i ≠ .sgDisable → (∀ d n, i ≠ .sgRotate d n) → t.oEnN = s.oEnN) ∧
    ((∀ m, i ≠ .sgSetMode m) → i ≠ .construct → t.oMs = s.oMs) ∧
    (i ≠ .tick → i ≠ .encEdge → i ≠ .homeEdge → i ≠ .limitEdge → i ≠ .dispWelcome → i ≠ .dispCalibrating →
      (∀ mm, i ≠ .dispHeight mm) → i ≠ .construct → t.disp = s.disp)

/-- From R27, R28, R30 and R211: the mask changes only under CS.ENTER, CS.EXIT and CONSTRUCT, the context only under
CONSTRUCT and by a fault, the fault latch only by a fault; and no operation but CONSTRUCT clears a pending latch, a latch
the spec supplies from general knowledge (PRESUMED, log 15). That no operation touches the port, and that only QD.UPDATE
writes `reply`, is of the model's own fields (DESIGN CHOICE, logs 8 and 19). -/
def Obligations.ControlRegisterFrames : Prop :=
  ∀ (i : Instr) (s t : State), exec i s = .next t →
    (i ≠ .csEnter → i ≠ .csExit → i ≠ .construct → t.masked = s.masked) ∧
    (i ≠ .construct → t.ctx = s.ctx ∨ t.ctx = .halted) ∧
    (t.ctx ≠ .halted → t.fault = s.fault) ∧
    (i ≠ .construct → ∀ n, s.ip.getLsbD n = true → t.ip.getLsbD n = true) ∧
    t.port = s.port ∧ (i ≠ .qdUpdate → t.reply = s.reply)
end

