-- ==== Sys2Proof/Laws/State.lean ====
section
/-! SUPPORT. One lemma for each field and each update of State, so that no proof unfolds an update. -/

namespace Sys2Proof.Machine.State

open Sys2Proof

/-! ### Writing one register -/

@[simp] theorem setTgt_tgt (s : State) (v : Word) : (s.setTgt v).tgt = v := rfl
@[simp] theorem setTgt_cur (s : State) (v : Word) : (s.setTgt v).cur = s.cur := rfl
@[simp] theorem setTgt_cd (s : State) (v : Word) : (s.setTgt v).cd = s.cd := rfl
@[simp] theorem setTgt_cdV (s : State) (v : Word) : (s.setTgt v).cdV = s.cdV := rfl
@[simp] theorem setTgt_qdPend (s : State) (v : Word) : (s.setTgt v).qdPend = s.qdPend := rfl
@[simp] theorem setTgt_sgEn (s : State) (v : Word) : (s.setTgt v).sgEn = s.sgEn := rfl
@[simp] theorem setTgt_masked (s : State) (v : Word) : (s.setTgt v).masked = s.masked := rfl
@[simp] theorem setTgt_ctx (s : State) (v : Word) : (s.setTgt v).ctx = s.ctx := rfl
@[simp] theorem setTgt_ip (s : State) (v : Word) : (s.setTgt v).ip = s.ip := rfl
@[simp] theorem setTgt_fault (s : State) (v : Word) : (s.setTgt v).fault = s.fault := rfl
@[simp] theorem setTgt_cfg (s : State) (v : Word) : (s.setTgt v).cfg = s.cfg := rfl
@[simp] theorem setTgt_maxh (s : State) (v : Word) : (s.setTgt v).maxh = s.maxh := rfl
@[simp] theorem setTgt_oStep (s : State) (v : Word) : (s.setTgt v).oStep = s.oStep := rfl
@[simp] theorem setTgt_oDir (s : State) (v : Word) : (s.setTgt v).oDir = s.oDir := rfl
@[simp] theorem setTgt_oEnN (s : State) (v : Word) : (s.setTgt v).oEnN = s.oEnN := rfl
@[simp] theorem setTgt_oMs (s : State) (v : Word) : (s.setTgt v).oMs = s.oMs := rfl
@[simp] theorem setTgt_disp (s : State) (v : Word) : (s.setTgt v).disp = s.disp := rfl
@[simp] theorem setTgt_port (s : State) (v : Word) : (s.setTgt v).port = s.port := rfl
@[simp] theorem setTgt_env (s : State) (v : Word) : (s.setTgt v).env = s.env := rfl
@[simp] theorem setTgt_hist (s : State) (v : Word) : (s.setTgt v).hist = s.hist := rfl
@[simp] theorem setTgt_reply (s : State) (v : Word) : (s.setTgt v).reply = s.reply := rfl

@[simp] theorem setCur_tgt (s : State) (v : Option Word) : (s.setCur v).tgt = s.tgt := rfl
@[simp] theorem setCur_cur (s : State) (v : Option Word) : (s.setCur v).cur = v := rfl
@[simp] theorem setCur_cd (s : State) (v : Option Word) : (s.setCur v).cd = s.cd := rfl
@[simp] theorem setCur_cdV (s : State) (v : Option Word) : (s.setCur v).cdV = s.cdV := rfl
@[simp] theorem setCur_qdPend (s : State) (v : Option Word) : (s.setCur v).qdPend = s.qdPend := rfl
@[simp] theorem setCur_sgEn (s : State) (v : Option Word) : (s.setCur v).sgEn = s.sgEn := rfl
@[simp] theorem setCur_masked (s : State) (v : Option Word) : (s.setCur v).masked = s.masked := rfl
@[simp] theorem setCur_ctx (s : State) (v : Option Word) : (s.setCur v).ctx = s.ctx := rfl
@[simp] theorem setCur_ip (s : State) (v : Option Word) : (s.setCur v).ip = s.ip := rfl
@[simp] theorem setCur_fault (s : State) (v : Option Word) : (s.setCur v).fault = s.fault := rfl
@[simp] theorem setCur_cfg (s : State) (v : Option Word) : (s.setCur v).cfg = s.cfg := rfl
@[simp] theorem setCur_maxh (s : State) (v : Option Word) : (s.setCur v).maxh = s.maxh := rfl
@[simp] theorem setCur_oStep (s : State) (v : Option Word) : (s.setCur v).oStep = s.oStep := rfl
@[simp] theorem setCur_oDir (s : State) (v : Option Word) : (s.setCur v).oDir = s.oDir := rfl
@[simp] theorem setCur_oEnN (s : State) (v : Option Word) : (s.setCur v).oEnN = s.oEnN := rfl
@[simp] theorem setCur_oMs (s : State) (v : Option Word) : (s.setCur v).oMs = s.oMs := rfl
@[simp] theorem setCur_disp (s : State) (v : Option Word) : (s.setCur v).disp = s.disp := rfl
@[simp] theorem setCur_port (s : State) (v : Option Word) : (s.setCur v).port = s.port := rfl
@[simp] theorem setCur_env (s : State) (v : Option Word) : (s.setCur v).env = s.env := rfl
@[simp] theorem setCur_hist (s : State) (v : Option Word) : (s.setCur v).hist = s.hist := rfl
@[simp] theorem setCur_reply (s : State) (v : Option Word) : (s.setCur v).reply = s.reply := rfl

@[simp] theorem setCd_tgt (s : State) (v : Time) : (s.setCd v).tgt = s.tgt := rfl
@[simp] theorem setCd_cur (s : State) (v : Time) : (s.setCd v).cur = s.cur := rfl
@[simp] theorem setCd_cd (s : State) (v : Time) : (s.setCd v).cd = v := rfl
@[simp] theorem setCd_cdV (s : State) (v : Time) : (s.setCd v).cdV = s.cdV := rfl
@[simp] theorem setCd_qdPend (s : State) (v : Time) : (s.setCd v).qdPend = s.qdPend := rfl
@[simp] theorem setCd_sgEn (s : State) (v : Time) : (s.setCd v).sgEn = s.sgEn := rfl
@[simp] theorem setCd_masked (s : State) (v : Time) : (s.setCd v).masked = s.masked := rfl
@[simp] theorem setCd_ctx (s : State) (v : Time) : (s.setCd v).ctx = s.ctx := rfl
@[simp] theorem setCd_ip (s : State) (v : Time) : (s.setCd v).ip = s.ip := rfl
@[simp] theorem setCd_fault (s : State) (v : Time) : (s.setCd v).fault = s.fault := rfl
@[simp] theorem setCd_cfg (s : State) (v : Time) : (s.setCd v).cfg = s.cfg := rfl
@[simp] theorem setCd_maxh (s : State) (v : Time) : (s.setCd v).maxh = s.maxh := rfl
@[simp] theorem setCd_oStep (s : State) (v : Time) : (s.setCd v).oStep = s.oStep := rfl
@[simp] theorem setCd_oDir (s : State) (v : Time) : (s.setCd v).oDir = s.oDir := rfl
@[simp] theorem setCd_oEnN (s : State) (v : Time) : (s.setCd v).oEnN = s.oEnN := rfl
@[simp] theorem setCd_oMs (s : State) (v : Time) : (s.setCd v).oMs = s.oMs := rfl
@[simp] theorem setCd_disp (s : State) (v : Time) : (s.setCd v).disp = s.disp := rfl
@[simp] theorem setCd_port (s : State) (v : Time) : (s.setCd v).port = s.port := rfl
@[simp] theorem setCd_env (s : State) (v : Time) : (s.setCd v).env = s.env := rfl
@[simp] theorem setCd_hist (s : State) (v : Time) : (s.setCd v).hist = s.hist := rfl
@[simp] theorem setCd_reply (s : State) (v : Time) : (s.setCd v).reply = s.reply := rfl

@[simp] theorem setCdV_tgt (s : State) (v : Bool) : (s.setCdV v).tgt = s.tgt := rfl
@[simp] theorem setCdV_cur (s : State) (v : Bool) : (s.setCdV v).cur = s.cur := rfl
@[simp] theorem setCdV_cd (s : State) (v : Bool) : (s.setCdV v).cd = s.cd := rfl
@[simp] theorem setCdV_cdV (s : State) (v : Bool) : (s.setCdV v).cdV = v := rfl
@[simp] theorem setCdV_qdPend (s : State) (v : Bool) : (s.setCdV v).qdPend = s.qdPend := rfl
@[simp] theorem setCdV_sgEn (s : State) (v : Bool) : (s.setCdV v).sgEn = s.sgEn := rfl
@[simp] theorem setCdV_masked (s : State) (v : Bool) : (s.setCdV v).masked = s.masked := rfl
@[simp] theorem setCdV_ctx (s : State) (v : Bool) : (s.setCdV v).ctx = s.ctx := rfl
@[simp] theorem setCdV_ip (s : State) (v : Bool) : (s.setCdV v).ip = s.ip := rfl
@[simp] theorem setCdV_fault (s : State) (v : Bool) : (s.setCdV v).fault = s.fault := rfl
@[simp] theorem setCdV_cfg (s : State) (v : Bool) : (s.setCdV v).cfg = s.cfg := rfl
@[simp] theorem setCdV_maxh (s : State) (v : Bool) : (s.setCdV v).maxh = s.maxh := rfl
@[simp] theorem setCdV_oStep (s : State) (v : Bool) : (s.setCdV v).oStep = s.oStep := rfl
@[simp] theorem setCdV_oDir (s : State) (v : Bool) : (s.setCdV v).oDir = s.oDir := rfl
@[simp] theorem setCdV_oEnN (s : State) (v : Bool) : (s.setCdV v).oEnN = s.oEnN := rfl
@[simp] theorem setCdV_oMs (s : State) (v : Bool) : (s.setCdV v).oMs = s.oMs := rfl
@[simp] theorem setCdV_disp (s : State) (v : Bool) : (s.setCdV v).disp = s.disp := rfl
@[simp] theorem setCdV_port (s : State) (v : Bool) : (s.setCdV v).port = s.port := rfl
@[simp] theorem setCdV_env (s : State) (v : Bool) : (s.setCdV v).env = s.env := rfl
@[simp] theorem setCdV_hist (s : State) (v : Bool) : (s.setCdV v).hist = s.hist := rfl
@[simp] theorem setCdV_reply (s : State) (v : Bool) : (s.setCdV v).reply = s.reply := rfl

@[simp] theorem setQdPend_tgt (s : State) (v : Rotation) : (s.setQdPend v).tgt = s.tgt := rfl
@[simp] theorem setQdPend_cur (s : State) (v : Rotation) : (s.setQdPend v).cur = s.cur := rfl
@[simp] theorem setQdPend_cd (s : State) (v : Rotation) : (s.setQdPend v).cd = s.cd := rfl
@[simp] theorem setQdPend_cdV (s : State) (v : Rotation) : (s.setQdPend v).cdV = s.cdV := rfl
@[simp] theorem setQdPend_qdPend (s : State) (v : Rotation) : (s.setQdPend v).qdPend = v := rfl
@[simp] theorem setQdPend_sgEn (s : State) (v : Rotation) : (s.setQdPend v).sgEn = s.sgEn := rfl
@[simp] theorem setQdPend_masked (s : State) (v : Rotation) : (s.setQdPend v).masked = s.masked := rfl
@[simp] theorem setQdPend_ctx (s : State) (v : Rotation) : (s.setQdPend v).ctx = s.ctx := rfl
@[simp] theorem setQdPend_ip (s : State) (v : Rotation) : (s.setQdPend v).ip = s.ip := rfl
@[simp] theorem setQdPend_fault (s : State) (v : Rotation) : (s.setQdPend v).fault = s.fault := rfl
@[simp] theorem setQdPend_cfg (s : State) (v : Rotation) : (s.setQdPend v).cfg = s.cfg := rfl
@[simp] theorem setQdPend_maxh (s : State) (v : Rotation) : (s.setQdPend v).maxh = s.maxh := rfl
@[simp] theorem setQdPend_oStep (s : State) (v : Rotation) : (s.setQdPend v).oStep = s.oStep := rfl
@[simp] theorem setQdPend_oDir (s : State) (v : Rotation) : (s.setQdPend v).oDir = s.oDir := rfl
@[simp] theorem setQdPend_oEnN (s : State) (v : Rotation) : (s.setQdPend v).oEnN = s.oEnN := rfl
@[simp] theorem setQdPend_oMs (s : State) (v : Rotation) : (s.setQdPend v).oMs = s.oMs := rfl
@[simp] theorem setQdPend_disp (s : State) (v : Rotation) : (s.setQdPend v).disp = s.disp := rfl
@[simp] theorem setQdPend_port (s : State) (v : Rotation) : (s.setQdPend v).port = s.port := rfl
@[simp] theorem setQdPend_env (s : State) (v : Rotation) : (s.setQdPend v).env = s.env := rfl
@[simp] theorem setQdPend_hist (s : State) (v : Rotation) : (s.setQdPend v).hist = s.hist := rfl
@[simp] theorem setQdPend_reply (s : State) (v : Rotation) : (s.setQdPend v).reply = s.reply := rfl

@[simp] theorem setSgEn_tgt (s : State) (v : Bool) : (s.setSgEn v).tgt = s.tgt := rfl
@[simp] theorem setSgEn_cur (s : State) (v : Bool) : (s.setSgEn v).cur = s.cur := rfl
@[simp] theorem setSgEn_cd (s : State) (v : Bool) : (s.setSgEn v).cd = s.cd := rfl
@[simp] theorem setSgEn_cdV (s : State) (v : Bool) : (s.setSgEn v).cdV = s.cdV := rfl
@[simp] theorem setSgEn_qdPend (s : State) (v : Bool) : (s.setSgEn v).qdPend = s.qdPend := rfl
@[simp] theorem setSgEn_sgEn (s : State) (v : Bool) : (s.setSgEn v).sgEn = v := rfl
@[simp] theorem setSgEn_masked (s : State) (v : Bool) : (s.setSgEn v).masked = s.masked := rfl
@[simp] theorem setSgEn_ctx (s : State) (v : Bool) : (s.setSgEn v).ctx = s.ctx := rfl
@[simp] theorem setSgEn_ip (s : State) (v : Bool) : (s.setSgEn v).ip = s.ip := rfl
@[simp] theorem setSgEn_fault (s : State) (v : Bool) : (s.setSgEn v).fault = s.fault := rfl
@[simp] theorem setSgEn_cfg (s : State) (v : Bool) : (s.setSgEn v).cfg = s.cfg := rfl
@[simp] theorem setSgEn_maxh (s : State) (v : Bool) : (s.setSgEn v).maxh = s.maxh := rfl
@[simp] theorem setSgEn_oStep (s : State) (v : Bool) : (s.setSgEn v).oStep = s.oStep := rfl
@[simp] theorem setSgEn_oDir (s : State) (v : Bool) : (s.setSgEn v).oDir = s.oDir := rfl
@[simp] theorem setSgEn_oEnN (s : State) (v : Bool) : (s.setSgEn v).oEnN = s.oEnN := rfl
@[simp] theorem setSgEn_oMs (s : State) (v : Bool) : (s.setSgEn v).oMs = s.oMs := rfl
@[simp] theorem setSgEn_disp (s : State) (v : Bool) : (s.setSgEn v).disp = s.disp := rfl
@[simp] theorem setSgEn_port (s : State) (v : Bool) : (s.setSgEn v).port = s.port := rfl
@[simp] theorem setSgEn_env (s : State) (v : Bool) : (s.setSgEn v).env = s.env := rfl
@[simp] theorem setSgEn_hist (s : State) (v : Bool) : (s.setSgEn v).hist = s.hist := rfl
@[simp] theorem setSgEn_reply (s : State) (v : Bool) : (s.setSgEn v).reply = s.reply := rfl

@[simp] theorem setMasked_tgt (s : State) (v : Bool) : (s.setMasked v).tgt = s.tgt := rfl
@[simp] theorem setMasked_cur (s : State) (v : Bool) : (s.setMasked v).cur = s.cur := rfl
@[simp] theorem setMasked_cd (s : State) (v : Bool) : (s.setMasked v).cd = s.cd := rfl
@[simp] theorem setMasked_cdV (s : State) (v : Bool) : (s.setMasked v).cdV = s.cdV := rfl
@[simp] theorem setMasked_qdPend (s : State) (v : Bool) : (s.setMasked v).qdPend = s.qdPend := rfl
@[simp] theorem setMasked_sgEn (s : State) (v : Bool) : (s.setMasked v).sgEn = s.sgEn := rfl
@[simp] theorem setMasked_masked (s : State) (v : Bool) : (s.setMasked v).masked = v := rfl
@[simp] theorem setMasked_ctx (s : State) (v : Bool) : (s.setMasked v).ctx = s.ctx := rfl
@[simp] theorem setMasked_ip (s : State) (v : Bool) : (s.setMasked v).ip = s.ip := rfl
@[simp] theorem setMasked_fault (s : State) (v : Bool) : (s.setMasked v).fault = s.fault := rfl
@[simp] theorem setMasked_cfg (s : State) (v : Bool) : (s.setMasked v).cfg = s.cfg := rfl
@[simp] theorem setMasked_maxh (s : State) (v : Bool) : (s.setMasked v).maxh = s.maxh := rfl
@[simp] theorem setMasked_oStep (s : State) (v : Bool) : (s.setMasked v).oStep = s.oStep := rfl
@[simp] theorem setMasked_oDir (s : State) (v : Bool) : (s.setMasked v).oDir = s.oDir := rfl
@[simp] theorem setMasked_oEnN (s : State) (v : Bool) : (s.setMasked v).oEnN = s.oEnN := rfl
@[simp] theorem setMasked_oMs (s : State) (v : Bool) : (s.setMasked v).oMs = s.oMs := rfl
@[simp] theorem setMasked_disp (s : State) (v : Bool) : (s.setMasked v).disp = s.disp := rfl
@[simp] theorem setMasked_port (s : State) (v : Bool) : (s.setMasked v).port = s.port := rfl
@[simp] theorem setMasked_env (s : State) (v : Bool) : (s.setMasked v).env = s.env := rfl
@[simp] theorem setMasked_hist (s : State) (v : Bool) : (s.setMasked v).hist = s.hist := rfl
@[simp] theorem setMasked_reply (s : State) (v : Bool) : (s.setMasked v).reply = s.reply := rfl

@[simp] theorem setCtx_tgt (s : State) (v : Ctx) : (s.setCtx v).tgt = s.tgt := rfl
@[simp] theorem setCtx_cur (s : State) (v : Ctx) : (s.setCtx v).cur = s.cur := rfl
@[simp] theorem setCtx_cd (s : State) (v : Ctx) : (s.setCtx v).cd = s.cd := rfl
@[simp] theorem setCtx_cdV (s : State) (v : Ctx) : (s.setCtx v).cdV = s.cdV := rfl
@[simp] theorem setCtx_qdPend (s : State) (v : Ctx) : (s.setCtx v).qdPend = s.qdPend := rfl
@[simp] theorem setCtx_sgEn (s : State) (v : Ctx) : (s.setCtx v).sgEn = s.sgEn := rfl
@[simp] theorem setCtx_masked (s : State) (v : Ctx) : (s.setCtx v).masked = s.masked := rfl
@[simp] theorem setCtx_ctx (s : State) (v : Ctx) : (s.setCtx v).ctx = v := rfl
@[simp] theorem setCtx_ip (s : State) (v : Ctx) : (s.setCtx v).ip = s.ip := rfl
@[simp] theorem setCtx_fault (s : State) (v : Ctx) : (s.setCtx v).fault = s.fault := rfl
@[simp] theorem setCtx_cfg (s : State) (v : Ctx) : (s.setCtx v).cfg = s.cfg := rfl
@[simp] theorem setCtx_maxh (s : State) (v : Ctx) : (s.setCtx v).maxh = s.maxh := rfl
@[simp] theorem setCtx_oStep (s : State) (v : Ctx) : (s.setCtx v).oStep = s.oStep := rfl
@[simp] theorem setCtx_oDir (s : State) (v : Ctx) : (s.setCtx v).oDir = s.oDir := rfl
@[simp] theorem setCtx_oEnN (s : State) (v : Ctx) : (s.setCtx v).oEnN = s.oEnN := rfl
@[simp] theorem setCtx_oMs (s : State) (v : Ctx) : (s.setCtx v).oMs = s.oMs := rfl
@[simp] theorem setCtx_disp (s : State) (v : Ctx) : (s.setCtx v).disp = s.disp := rfl
@[simp] theorem setCtx_port (s : State) (v : Ctx) : (s.setCtx v).port = s.port := rfl
@[simp] theorem setCtx_env (s : State) (v : Ctx) : (s.setCtx v).env = s.env := rfl
@[simp] theorem setCtx_hist (s : State) (v : Ctx) : (s.setCtx v).hist = s.hist := rfl
@[simp] theorem setCtx_reply (s : State) (v : Ctx) : (s.setCtx v).reply = s.reply := rfl

@[simp] theorem setIp_tgt (s : State) (v : BitVec 3) : (s.setIp v).tgt = s.tgt := rfl
@[simp] theorem setIp_cur (s : State) (v : BitVec 3) : (s.setIp v).cur = s.cur := rfl
@[simp] theorem setIp_cd (s : State) (v : BitVec 3) : (s.setIp v).cd = s.cd := rfl
@[simp] theorem setIp_cdV (s : State) (v : BitVec 3) : (s.setIp v).cdV = s.cdV := rfl
@[simp] theorem setIp_qdPend (s : State) (v : BitVec 3) : (s.setIp v).qdPend = s.qdPend := rfl
@[simp] theorem setIp_sgEn (s : State) (v : BitVec 3) : (s.setIp v).sgEn = s.sgEn := rfl
@[simp] theorem setIp_masked (s : State) (v : BitVec 3) : (s.setIp v).masked = s.masked := rfl
@[simp] theorem setIp_ctx (s : State) (v : BitVec 3) : (s.setIp v).ctx = s.ctx := rfl
@[simp] theorem setIp_ip (s : State) (v : BitVec 3) : (s.setIp v).ip = v := rfl
@[simp] theorem setIp_fault (s : State) (v : BitVec 3) : (s.setIp v).fault = s.fault := rfl
@[simp] theorem setIp_cfg (s : State) (v : BitVec 3) : (s.setIp v).cfg = s.cfg := rfl
@[simp] theorem setIp_maxh (s : State) (v : BitVec 3) : (s.setIp v).maxh = s.maxh := rfl
@[simp] theorem setIp_oStep (s : State) (v : BitVec 3) : (s.setIp v).oStep = s.oStep := rfl
@[simp] theorem setIp_oDir (s : State) (v : BitVec 3) : (s.setIp v).oDir = s.oDir := rfl
@[simp] theorem setIp_oEnN (s : State) (v : BitVec 3) : (s.setIp v).oEnN = s.oEnN := rfl
@[simp] theorem setIp_oMs (s : State) (v : BitVec 3) : (s.setIp v).oMs = s.oMs := rfl
@[simp] theorem setIp_disp (s : State) (v : BitVec 3) : (s.setIp v).disp = s.disp := rfl
@[simp] theorem setIp_port (s : State) (v : BitVec 3) : (s.setIp v).port = s.port := rfl
@[simp] theorem setIp_env (s : State) (v : BitVec 3) : (s.setIp v).env = s.env := rfl
@[simp] theorem setIp_hist (s : State) (v : BitVec 3) : (s.setIp v).hist = s.hist := rfl
@[simp] theorem setIp_reply (s : State) (v : BitVec 3) : (s.setIp v).reply = s.reply := rfl

@[simp] theorem setFault_tgt (s : State) (v : BitVec 8) : (s.setFault v).tgt = s.tgt := rfl
@[simp] theorem setFault_cur (s : State) (v : BitVec 8) : (s.setFault v).cur = s.cur := rfl
@[simp] theorem setFault_cd (s : State) (v : BitVec 8) : (s.setFault v).cd = s.cd := rfl
@[simp] theorem setFault_cdV (s : State) (v : BitVec 8) : (s.setFault v).cdV = s.cdV := rfl
@[simp] theorem setFault_qdPend (s : State) (v : BitVec 8) : (s.setFault v).qdPend = s.qdPend := rfl
@[simp] theorem setFault_sgEn (s : State) (v : BitVec 8) : (s.setFault v).sgEn = s.sgEn := rfl
@[simp] theorem setFault_masked (s : State) (v : BitVec 8) : (s.setFault v).masked = s.masked := rfl
@[simp] theorem setFault_ctx (s : State) (v : BitVec 8) : (s.setFault v).ctx = s.ctx := rfl
@[simp] theorem setFault_ip (s : State) (v : BitVec 8) : (s.setFault v).ip = s.ip := rfl
@[simp] theorem setFault_fault (s : State) (v : BitVec 8) : (s.setFault v).fault = v := rfl
@[simp] theorem setFault_cfg (s : State) (v : BitVec 8) : (s.setFault v).cfg = s.cfg := rfl
@[simp] theorem setFault_maxh (s : State) (v : BitVec 8) : (s.setFault v).maxh = s.maxh := rfl
@[simp] theorem setFault_oStep (s : State) (v : BitVec 8) : (s.setFault v).oStep = s.oStep := rfl
@[simp] theorem setFault_oDir (s : State) (v : BitVec 8) : (s.setFault v).oDir = s.oDir := rfl
@[simp] theorem setFault_oEnN (s : State) (v : BitVec 8) : (s.setFault v).oEnN = s.oEnN := rfl
@[simp] theorem setFault_oMs (s : State) (v : BitVec 8) : (s.setFault v).oMs = s.oMs := rfl
@[simp] theorem setFault_disp (s : State) (v : BitVec 8) : (s.setFault v).disp = s.disp := rfl
@[simp] theorem setFault_port (s : State) (v : BitVec 8) : (s.setFault v).port = s.port := rfl
@[simp] theorem setFault_env (s : State) (v : BitVec 8) : (s.setFault v).env = s.env := rfl
@[simp] theorem setFault_hist (s : State) (v : BitVec 8) : (s.setFault v).hist = s.hist := rfl
@[simp] theorem setFault_reply (s : State) (v : BitVec 8) : (s.setFault v).reply = s.reply := rfl

@[simp] theorem setDisp_tgt (s : State) (v : Disp) : (s.setDisp v).tgt = s.tgt := rfl
@[simp] theorem setDisp_cur (s : State) (v : Disp) : (s.setDisp v).cur = s.cur := rfl
@[simp] theorem setDisp_cd (s : State) (v : Disp) : (s.setDisp v).cd = s.cd := rfl
@[simp] theorem setDisp_cdV (s : State) (v : Disp) : (s.setDisp v).cdV = s.cdV := rfl
@[simp] theorem setDisp_qdPend (s : State) (v : Disp) : (s.setDisp v).qdPend = s.qdPend := rfl
@[simp] theorem setDisp_sgEn (s : State) (v : Disp) : (s.setDisp v).sgEn = s.sgEn := rfl
@[simp] theorem setDisp_masked (s : State) (v : Disp) : (s.setDisp v).masked = s.masked := rfl
@[simp] theorem setDisp_ctx (s : State) (v : Disp) : (s.setDisp v).ctx = s.ctx := rfl
@[simp] theorem setDisp_ip (s : State) (v : Disp) : (s.setDisp v).ip = s.ip := rfl
@[simp] theorem setDisp_fault (s : State) (v : Disp) : (s.setDisp v).fault = s.fault := rfl
@[simp] theorem setDisp_cfg (s : State) (v : Disp) : (s.setDisp v).cfg = s.cfg := rfl
@[simp] theorem setDisp_maxh (s : State) (v : Disp) : (s.setDisp v).maxh = s.maxh := rfl
@[simp] theorem setDisp_oStep (s : State) (v : Disp) : (s.setDisp v).oStep = s.oStep := rfl
@[simp] theorem setDisp_oDir (s : State) (v : Disp) : (s.setDisp v).oDir = s.oDir := rfl
@[simp] theorem setDisp_oEnN (s : State) (v : Disp) : (s.setDisp v).oEnN = s.oEnN := rfl
@[simp] theorem setDisp_oMs (s : State) (v : Disp) : (s.setDisp v).oMs = s.oMs := rfl
@[simp] theorem setDisp_disp (s : State) (v : Disp) : (s.setDisp v).disp = v := rfl
@[simp] theorem setDisp_port (s : State) (v : Disp) : (s.setDisp v).port = s.port := rfl
@[simp] theorem setDisp_env (s : State) (v : Disp) : (s.setDisp v).env = s.env := rfl
@[simp] theorem setDisp_hist (s : State) (v : Disp) : (s.setDisp v).hist = s.hist := rfl
@[simp] theorem setDisp_reply (s : State) (v : Disp) : (s.setDisp v).reply = s.reply := rfl

@[simp] theorem setPort_tgt (s : State) (v : List Byte) : (s.setPort v).tgt = s.tgt := rfl
@[simp] theorem setPort_cur (s : State) (v : List Byte) : (s.setPort v).cur = s.cur := rfl
@[simp] theorem setPort_cd (s : State) (v : List Byte) : (s.setPort v).cd = s.cd := rfl
@[simp] theorem setPort_cdV (s : State) (v : List Byte) : (s.setPort v).cdV = s.cdV := rfl
@[simp] theorem setPort_qdPend (s : State) (v : List Byte) : (s.setPort v).qdPend = s.qdPend := rfl
@[simp] theorem setPort_sgEn (s : State) (v : List Byte) : (s.setPort v).sgEn = s.sgEn := rfl
@[simp] theorem setPort_masked (s : State) (v : List Byte) : (s.setPort v).masked = s.masked := rfl
@[simp] theorem setPort_ctx (s : State) (v : List Byte) : (s.setPort v).ctx = s.ctx := rfl
@[simp] theorem setPort_ip (s : State) (v : List Byte) : (s.setPort v).ip = s.ip := rfl
@[simp] theorem setPort_fault (s : State) (v : List Byte) : (s.setPort v).fault = s.fault := rfl
@[simp] theorem setPort_cfg (s : State) (v : List Byte) : (s.setPort v).cfg = s.cfg := rfl
@[simp] theorem setPort_maxh (s : State) (v : List Byte) : (s.setPort v).maxh = s.maxh := rfl
@[simp] theorem setPort_oStep (s : State) (v : List Byte) : (s.setPort v).oStep = s.oStep := rfl
@[simp] theorem setPort_oDir (s : State) (v : List Byte) : (s.setPort v).oDir = s.oDir := rfl
@[simp] theorem setPort_oEnN (s : State) (v : List Byte) : (s.setPort v).oEnN = s.oEnN := rfl
@[simp] theorem setPort_oMs (s : State) (v : List Byte) : (s.setPort v).oMs = s.oMs := rfl
@[simp] theorem setPort_disp (s : State) (v : List Byte) : (s.setPort v).disp = s.disp := rfl
@[simp] theorem setPort_port (s : State) (v : List Byte) : (s.setPort v).port = v := rfl
@[simp] theorem setPort_env (s : State) (v : List Byte) : (s.setPort v).env = s.env := rfl
@[simp] theorem setPort_hist (s : State) (v : List Byte) : (s.setPort v).hist = s.hist := rfl
@[simp] theorem setPort_reply (s : State) (v : List Byte) : (s.setPort v).reply = s.reply := rfl

@[simp] theorem setReply_tgt (s : State) (v : Option Rotation) : (s.setReply v).tgt = s.tgt := rfl
@[simp] theorem setReply_cur (s : State) (v : Option Rotation) : (s.setReply v).cur = s.cur := rfl
@[simp] theorem setReply_cd (s : State) (v : Option Rotation) : (s.setReply v).cd = s.cd := rfl
@[simp] theorem setReply_cdV (s : State) (v : Option Rotation) : (s.setReply v).cdV = s.cdV := rfl
@[simp] theorem setReply_qdPend (s : State) (v : Option Rotation) : (s.setReply v).qdPend = s.qdPend := rfl
@[simp] theorem setReply_sgEn (s : State) (v : Option Rotation) : (s.setReply v).sgEn = s.sgEn := rfl
@[simp] theorem setReply_masked (s : State) (v : Option Rotation) : (s.setReply v).masked = s.masked := rfl
@[simp] theorem setReply_ctx (s : State) (v : Option Rotation) : (s.setReply v).ctx = s.ctx := rfl
@[simp] theorem setReply_ip (s : State) (v : Option Rotation) : (s.setReply v).ip = s.ip := rfl
@[simp] theorem setReply_fault (s : State) (v : Option Rotation) : (s.setReply v).fault = s.fault := rfl
@[simp] theorem setReply_cfg (s : State) (v : Option Rotation) : (s.setReply v).cfg = s.cfg := rfl
@[simp] theorem setReply_maxh (s : State) (v : Option Rotation) : (s.setReply v).maxh = s.maxh := rfl
@[simp] theorem setReply_oStep (s : State) (v : Option Rotation) : (s.setReply v).oStep = s.oStep := rfl
@[simp] theorem setReply_oDir (s : State) (v : Option Rotation) : (s.setReply v).oDir = s.oDir := rfl
@[simp] theorem setReply_oEnN (s : State) (v : Option Rotation) : (s.setReply v).oEnN = s.oEnN := rfl
@[simp] theorem setReply_oMs (s : State) (v : Option Rotation) : (s.setReply v).oMs = s.oMs := rfl
@[simp] theorem setReply_disp (s : State) (v : Option Rotation) : (s.setReply v).disp = s.disp := rfl
@[simp] theorem setReply_port (s : State) (v : Option Rotation) : (s.setReply v).port = s.port := rfl
@[simp] theorem setReply_env (s : State) (v : Option Rotation) : (s.setReply v).env = s.env := rfl
@[simp] theorem setReply_hist (s : State) (v : Option Rotation) : (s.setReply v).hist = s.hist := rfl
@[simp] theorem setReply_reply (s : State) (v : Option Rotation) : (s.setReply v).reply = v := rfl

/-! ### Time passes to the next access: the environment and the pending latches change -/

@[simp] theorem pass_tgt (s : State) : (s.pass).tgt = s.tgt := rfl
@[simp] theorem pass_cur (s : State) : (s.pass).cur = s.cur := rfl
@[simp] theorem pass_cd (s : State) : (s.pass).cd = s.cd := rfl
@[simp] theorem pass_cdV (s : State) : (s.pass).cdV = s.cdV := rfl
@[simp] theorem pass_qdPend (s : State) : (s.pass).qdPend = s.qdPend := rfl
@[simp] theorem pass_sgEn (s : State) : (s.pass).sgEn = s.sgEn := rfl
@[simp] theorem pass_masked (s : State) : (s.pass).masked = s.masked := rfl
@[simp] theorem pass_ctx (s : State) : (s.pass).ctx = s.ctx := rfl
@[simp] theorem pass_fault (s : State) : (s.pass).fault = s.fault := rfl
@[simp] theorem pass_cfg (s : State) : (s.pass).cfg = s.cfg := rfl
@[simp] theorem pass_maxh (s : State) : (s.pass).maxh = s.maxh := rfl
@[simp] theorem pass_oStep (s : State) : (s.pass).oStep = s.oStep := rfl
@[simp] theorem pass_oDir (s : State) : (s.pass).oDir = s.oDir := rfl
@[simp] theorem pass_oEnN (s : State) : (s.pass).oEnN = s.oEnN := rfl
@[simp] theorem pass_oMs (s : State) : (s.pass).oMs = s.oMs := rfl
@[simp] theorem pass_disp (s : State) : (s.pass).disp = s.disp := rfl
@[simp] theorem pass_port (s : State) : (s.pass).port = s.port := rfl
@[simp] theorem pass_hist (s : State) : (s.pass).hist = s.hist := rfl
@[simp] theorem pass_reply (s : State) : (s.pass).reply = s.reply := rfl

/-! ### Fault entry -/

@[simp] theorem takeFault_tgt (s : State) (f : BlockFault) : (s.takeFault f).tgt = s.tgt := rfl
@[simp] theorem takeFault_cur (s : State) (f : BlockFault) : (s.takeFault f).cur = s.cur := rfl
@[simp] theorem takeFault_cd (s : State) (f : BlockFault) : (s.takeFault f).cd = s.cd := rfl
@[simp] theorem takeFault_cdV (s : State) (f : BlockFault) : (s.takeFault f).cdV = s.cdV := rfl
@[simp] theorem takeFault_qdPend (s : State) (f : BlockFault) : (s.takeFault f).qdPend = s.qdPend := rfl
@[simp] theorem takeFault_sgEn (s : State) (f : BlockFault) : (s.takeFault f).sgEn = s.sgEn := rfl
@[simp] theorem takeFault_masked (s : State) (f : BlockFault) : (s.takeFault f).masked = s.masked := rfl
@[simp] theorem takeFault_ctx (s : State) (f : BlockFault) : (s.takeFault f).ctx = .halted := rfl
@[simp] theorem takeFault_ip (s : State) (f : BlockFault) : (s.takeFault f).ip = s.ip := rfl
@[simp] theorem takeFault_fault (s : State) (f : BlockFault) : (s.takeFault f).fault = if s.faultValid then s.fault else BlockFault.latch f :=
    rfl
@[simp] theorem takeFault_cfg (s : State) (f : BlockFault) : (s.takeFault f).cfg = s.cfg := rfl
@[simp] theorem takeFault_maxh (s : State) (f : BlockFault) : (s.takeFault f).maxh = s.maxh := rfl
@[simp] theorem takeFault_oStep (s : State) (f : BlockFault) : (s.takeFault f).oStep = s.oStep := rfl
@[simp] theorem takeFault_oDir (s : State) (f : BlockFault) : (s.takeFault f).oDir = s.oDir := rfl
@[simp] theorem takeFault_oEnN (s : State) (f : BlockFault) : (s.takeFault f).oEnN = s.oEnN := rfl
@[simp] theorem takeFault_oMs (s : State) (f : BlockFault) : (s.takeFault f).oMs = s.oMs := rfl
@[simp] theorem takeFault_disp (s : State) (f : BlockFault) : (s.takeFault f).disp = s.disp := rfl
@[simp] theorem takeFault_port (s : State) (f : BlockFault) : (s.takeFault f).port = s.port := rfl
@[simp] theorem takeFault_env (s : State) (f : BlockFault) : (s.takeFault f).env = s.env := rfl
@[simp] theorem takeFault_hist (s : State) (f : BlockFault) : (s.takeFault f).hist = s.hist := rfl
@[simp] theorem takeFault_reply (s : State) (f : BlockFault) : (s.takeFault f).reply = s.reply := rfl

/-! ### Into and out of a body -/

@[simp] theorem clearPending_tgt (s : State) (n : Source) : (s.clearPending n).tgt = s.tgt := rfl
@[simp] theorem clearPending_cur (s : State) (n : Source) : (s.clearPending n).cur = s.cur := rfl
@[simp] theorem clearPending_cd (s : State) (n : Source) : (s.clearPending n).cd = s.cd := rfl
@[simp] theorem clearPending_cdV (s : State) (n : Source) : (s.clearPending n).cdV = s.cdV := rfl
@[simp] theorem clearPending_qdPend (s : State) (n : Source) : (s.clearPending n).qdPend = s.qdPend := rfl
@[simp] theorem clearPending_sgEn (s : State) (n : Source) : (s.clearPending n).sgEn = s.sgEn := rfl
@[simp] theorem clearPending_masked (s : State) (n : Source) : (s.clearPending n).masked = s.masked := rfl
@[simp] theorem clearPending_ctx (s : State) (n : Source) : (s.clearPending n).ctx = s.ctx := rfl
@[simp] theorem clearPending_ip (s : State) (n : Source) : (s.clearPending n).ip = s.ip &&& ~~~ Source.bit n := rfl
@[simp] theorem clearPending_fault (s : State) (n : Source) : (s.clearPending n).fault = s.fault := rfl
@[simp] theorem clearPending_cfg (s : State) (n : Source) : (s.clearPending n).cfg = s.cfg := rfl
@[simp] theorem clearPending_maxh (s : State) (n : Source) : (s.clearPending n).maxh = s.maxh := rfl
@[simp] theorem clearPending_oStep (s : State) (n : Source) : (s.clearPending n).oStep = s.oStep := rfl
@[simp] theorem clearPending_oDir (s : State) (n : Source) : (s.clearPending n).oDir = s.oDir := rfl
@[simp] theorem clearPending_oEnN (s : State) (n : Source) : (s.clearPending n).oEnN = s.oEnN := rfl
@[simp] theorem clearPending_oMs (s : State) (n : Source) : (s.clearPending n).oMs = s.oMs := rfl
@[simp] theorem clearPending_disp (s : State) (n : Source) : (s.clearPending n).disp = s.disp := rfl
@[simp] theorem clearPending_port (s : State) (n : Source) : (s.clearPending n).port = s.port := rfl
@[simp] theorem clearPending_env (s : State) (n : Source) : (s.clearPending n).env = s.env := rfl
@[simp] theorem clearPending_hist (s : State) (n : Source) : (s.clearPending n).hist = s.hist := rfl
@[simp] theorem clearPending_reply (s : State) (n : Source) : (s.clearPending n).reply = s.reply := rfl

@[simp] theorem enterHandler_tgt (s : State) (n : Source) : (s.enterHandler n).tgt = s.tgt := rfl
@[simp] theorem enterHandler_cur (s : State) (n : Source) : (s.enterHandler n).cur = s.cur := rfl
@[simp] theorem enterHandler_cd (s : State) (n : Source) : (s.enterHandler n).cd = s.cd := rfl
@[simp] theorem enterHandler_cdV (s : State) (n : Source) : (s.enterHandler n).cdV = s.cdV := rfl
@[simp] theorem enterHandler_qdPend (s : State) (n : Source) : (s.enterHandler n).qdPend = s.qdPend := rfl
@[simp] theorem enterHandler_sgEn (s : State) (n : Source) : (s.enterHandler n).sgEn = s.sgEn := rfl
@[simp] theorem enterHandler_masked (s : State) (n : Source) : (s.enterHandler n).masked = true := rfl
@[simp] theorem enterHandler_ctx (s : State) (n : Source) : (s.enterHandler n).ctx = Source.ctx n := rfl
@[simp] theorem enterHandler_ip (s : State) (n : Source) : (s.enterHandler n).ip = s.ip &&& ~~~ Source.bit n := rfl
@[simp] theorem enterHandler_fault (s : State) (n : Source) : (s.enterHandler n).fault = s.fault := rfl
@[simp] theorem enterHandler_cfg (s : State) (n : Source) : (s.enterHandler n).cfg = s.cfg := rfl
@[simp] theorem enterHandler_maxh (s : State) (n : Source) : (s.enterHandler n).maxh = s.maxh := rfl
@[simp] theorem enterHandler_oStep (s : State) (n : Source) : (s.enterHandler n).oStep = s.oStep := rfl
@[simp] theorem enterHandler_oDir (s : State) (n : Source) : (s.enterHandler n).oDir = s.oDir := rfl
@[simp] theorem enterHandler_oEnN (s : State) (n : Source) : (s.enterHandler n).oEnN = s.oEnN := rfl
@[simp] theorem enterHandler_oMs (s : State) (n : Source) : (s.enterHandler n).oMs = s.oMs := rfl
@[simp] theorem enterHandler_disp (s : State) (n : Source) : (s.enterHandler n).disp = s.disp := rfl
@[simp] theorem enterHandler_port (s : State) (n : Source) : (s.enterHandler n).port = s.port := rfl
@[simp] theorem enterHandler_env (s : State) (n : Source) : (s.enterHandler n).env = s.env := rfl
@[simp] theorem enterHandler_hist (s : State) (n : Source) : (s.enterHandler n).hist = s.hist := rfl
@[simp] theorem enterHandler_reply (s : State) (n : Source) : (s.enterHandler n).reply = s.reply := rfl

@[simp] theorem beginTick_tgt (s : State) : (s.beginTick).tgt = s.tgt := rfl
@[simp] theorem beginTick_cur (s : State) : (s.beginTick).cur = s.cur := rfl
@[simp] theorem beginTick_cd (s : State) : (s.beginTick).cd = s.cd := rfl
@[simp] theorem beginTick_cdV (s : State) : (s.beginTick).cdV = s.cdV := rfl
@[simp] theorem beginTick_qdPend (s : State) : (s.beginTick).qdPend = s.qdPend := rfl
@[simp] theorem beginTick_sgEn (s : State) : (s.beginTick).sgEn = s.sgEn := rfl
@[simp] theorem beginTick_masked (s : State) : (s.beginTick).masked = true := rfl
@[simp] theorem beginTick_ctx (s : State) : (s.beginTick).ctx = .fgTick := rfl
@[simp] theorem beginTick_ip (s : State) : (s.beginTick).ip = s.ip := rfl
@[simp] theorem beginTick_fault (s : State) : (s.beginTick).fault = s.fault := rfl
@[simp] theorem beginTick_cfg (s : State) : (s.beginTick).cfg = s.cfg := rfl
@[simp] theorem beginTick_maxh (s : State) : (s.beginTick).maxh = s.maxh := rfl
@[simp] theorem beginTick_oStep (s : State) : (s.beginTick).oStep = s.oStep := rfl
@[simp] theorem beginTick_oDir (s : State) : (s.beginTick).oDir = s.oDir := rfl
@[simp] theorem beginTick_oEnN (s : State) : (s.beginTick).oEnN = s.oEnN := rfl
@[simp] theorem beginTick_oMs (s : State) : (s.beginTick).oMs = s.oMs := rfl
@[simp] theorem beginTick_disp (s : State) : (s.beginTick).disp = s.disp := rfl
@[simp] theorem beginTick_port (s : State) : (s.beginTick).port = s.port := rfl
@[simp] theorem beginTick_env (s : State) : (s.beginTick).env = s.env := rfl
@[simp] theorem beginTick_hist (s : State) : (s.beginTick).hist = s.hist := rfl
@[simp] theorem beginTick_reply (s : State) : (s.beginTick).reply = s.reply := rfl

@[simp] theorem leaveBody_tgt (s : State) : (s.leaveBody).tgt = s.tgt := rfl
@[simp] theorem leaveBody_cur (s : State) : (s.leaveBody).cur = s.cur := rfl
@[simp] theorem leaveBody_cd (s : State) : (s.leaveBody).cd = s.cd := rfl
@[simp] theorem leaveBody_cdV (s : State) : (s.leaveBody).cdV = s.cdV := rfl
@[simp] theorem leaveBody_qdPend (s : State) : (s.leaveBody).qdPend = s.qdPend := rfl
@[simp] theorem leaveBody_sgEn (s : State) : (s.leaveBody).sgEn = s.sgEn := rfl
@[simp] theorem leaveBody_masked (s : State) : (s.leaveBody).masked = false := rfl
@[simp] theorem leaveBody_ctx (s : State) : (s.leaveBody).ctx = .fgOpen := rfl
@[simp] theorem leaveBody_ip (s : State) : (s.leaveBody).ip = s.ip := rfl
@[simp] theorem leaveBody_fault (s : State) : (s.leaveBody).fault = s.fault := rfl
@[simp] theorem leaveBody_cfg (s : State) : (s.leaveBody).cfg = s.cfg := rfl
@[simp] theorem leaveBody_maxh (s : State) : (s.leaveBody).maxh = s.maxh := rfl
@[simp] theorem leaveBody_oStep (s : State) : (s.leaveBody).oStep = s.oStep := rfl
@[simp] theorem leaveBody_oDir (s : State) : (s.leaveBody).oDir = s.oDir := rfl
@[simp] theorem leaveBody_oEnN (s : State) : (s.leaveBody).oEnN = s.oEnN := rfl
@[simp] theorem leaveBody_oMs (s : State) : (s.leaveBody).oMs = s.oMs := rfl
@[simp] theorem leaveBody_disp (s : State) : (s.leaveBody).disp = s.disp := rfl
@[simp] theorem leaveBody_port (s : State) : (s.leaveBody).port = s.port := rfl
@[simp] theorem leaveBody_env (s : State) : (s.leaveBody).env = s.env := rfl
@[simp] theorem leaveBody_hist (s : State) : (s.leaveBody).hist = s.hist := rfl
@[simp] theorem leaveBody_reply (s : State) : (s.leaveBody).reply = s.reply := rfl

/-! ### Line latches, events and the decoder's pending rotation -/

@[simp] theorem record_tgt (s : State) (e : OutEvent) : (s.record e).tgt = s.tgt := rfl
@[simp] theorem record_cur (s : State) (e : OutEvent) : (s.record e).cur = s.cur := rfl
@[simp] theorem record_cd (s : State) (e : OutEvent) : (s.record e).cd = s.cd := rfl
@[simp] theorem record_cdV (s : State) (e : OutEvent) : (s.record e).cdV = s.cdV := rfl
@[simp] theorem record_qdPend (s : State) (e : OutEvent) : (s.record e).qdPend = s.qdPend := rfl
@[simp] theorem record_sgEn (s : State) (e : OutEvent) : (s.record e).sgEn = s.sgEn := rfl
@[simp] theorem record_masked (s : State) (e : OutEvent) : (s.record e).masked = s.masked := rfl
@[simp] theorem record_ctx (s : State) (e : OutEvent) : (s.record e).ctx = s.ctx := rfl
@[simp] theorem record_ip (s : State) (e : OutEvent) : (s.record e).ip = s.ip := rfl
@[simp] theorem record_fault (s : State) (e : OutEvent) : (s.record e).fault = s.fault := rfl
@[simp] theorem record_cfg (s : State) (e : OutEvent) : (s.record e).cfg = s.cfg := rfl
@[simp] theorem record_maxh (s : State) (e : OutEvent) : (s.record e).maxh = s.maxh := rfl
@[simp] theorem record_oStep (s : State) (e : OutEvent) : (s.record e).oStep = s.oStep := rfl
@[simp] theorem record_oDir (s : State) (e : OutEvent) : (s.record e).oDir = s.oDir := rfl
@[simp] theorem record_oEnN (s : State) (e : OutEvent) : (s.record e).oEnN = s.oEnN := rfl
@[simp] theorem record_oMs (s : State) (e : OutEvent) : (s.record e).oMs = s.oMs := rfl
@[simp] theorem record_disp (s : State) (e : OutEvent) : (s.record e).disp = s.disp := rfl
@[simp] theorem record_port (s : State) (e : OutEvent) : (s.record e).port = s.port := rfl
@[simp] theorem record_env (s : State) (e : OutEvent) : (s.record e).env = s.env := rfl
@[simp] theorem record_hist (s : State) (e : OutEvent) : (s.record e).hist = s.hist ++ [e] := rfl
@[simp] theorem record_reply (s : State) (e : OutEvent) : (s.record e).reply = s.reply := rfl

@[simp] theorem setLatch_tgt (s : State) (p : OutPin) (b : Bool) : (s.setLatch p b).tgt = s.tgt := by cases p <;> rfl
@[simp] theorem setLatch_cur (s : State) (p : OutPin) (b : Bool) : (s.setLatch p b).cur = s.cur := by cases p <;> rfl
@[simp] theorem setLatch_cd (s : State) (p : OutPin) (b : Bool) : (s.setLatch p b).cd = s.cd := by cases p <;> rfl
@[simp] theorem setLatch_cdV (s : State) (p : OutPin) (b : Bool) : (s.setLatch p b).cdV = s.cdV := by cases p <;> rfl
@[simp] theorem setLatch_qdPend (s : State) (p : OutPin) (b : Bool) : (s.setLatch p b).qdPend = s.qdPend :=
    by cases p <;> rfl
@[simp] theorem setLatch_sgEn (s : State) (p : OutPin) (b : Bool) : (s.setLatch p b).sgEn = s.sgEn := by cases p <;> rfl
@[simp] theorem setLatch_masked (s : State) (p : OutPin) (b : Bool) : (s.setLatch p b).masked = s.masked :=
    by cases p <;> rfl
@[simp] theorem setLatch_ctx (s : State) (p : OutPin) (b : Bool) : (s.setLatch p b).ctx = s.ctx := by cases p <;> rfl
@[simp] theorem setLatch_ip (s : State) (p : OutPin) (b : Bool) : (s.setLatch p b).ip = s.ip := by cases p <;> rfl
@[simp] theorem setLatch_fault (s : State) (p : OutPin) (b : Bool) : (s.setLatch p b).fault = s.fault :=
    by cases p <;> rfl
@[simp] theorem setLatch_cfg (s : State) (p : OutPin) (b : Bool) : (s.setLatch p b).cfg = s.cfg := by cases p <;> rfl
@[simp] theorem setLatch_maxh (s : State) (p : OutPin) (b : Bool) : (s.setLatch p b).maxh = s.maxh := by cases p <;> rfl
@[simp] theorem setLatch_disp (s : State) (p : OutPin) (b : Bool) : (s.setLatch p b).disp = s.disp := by cases p <;> rfl
@[simp] theorem setLatch_port (s : State) (p : OutPin) (b : Bool) : (s.setLatch p b).port = s.port := by cases p <;> rfl
@[simp] theorem setLatch_env (s : State) (p : OutPin) (b : Bool) : (s.setLatch p b).env = s.env := by cases p <;> rfl
@[simp] theorem setLatch_hist (s : State) (p : OutPin) (b : Bool) : (s.setLatch p b).hist = s.hist := by cases p <;> rfl
@[simp] theorem setLatch_reply (s : State) (p : OutPin) (b : Bool) : (s.setLatch p b).reply = s.reply :=
    by cases p <;> rfl

@[simp] theorem setLatch_step_oStep (s : State) (b : Bool) : (s.setLatch .step b).oStep = b := rfl
@[simp] theorem setLatch_step_oDir (s : State) (b : Bool) : (s.setLatch .step b).oDir = s.oDir := rfl
@[simp] theorem setLatch_step_oEnN (s : State) (b : Bool) : (s.setLatch .step b).oEnN = s.oEnN := rfl
@[simp] theorem setLatch_step_oMs (s : State) (b : Bool) : (s.setLatch .step b).oMs = s.oMs := rfl
@[simp] theorem setLatch_dir_oStep (s : State) (b : Bool) : (s.setLatch .dir b).oStep = s.oStep := rfl
@[simp] theorem setLatch_dir_oDir (s : State) (b : Bool) : (s.setLatch .dir b).oDir = b := rfl
@[simp] theorem setLatch_dir_oEnN (s : State) (b : Bool) : (s.setLatch .dir b).oEnN = s.oEnN := rfl
@[simp] theorem setLatch_dir_oMs (s : State) (b : Bool) : (s.setLatch .dir b).oMs = s.oMs := rfl
@[simp] theorem setLatch_enN_oStep (s : State) (b : Bool) : (s.setLatch .enN b).oStep = s.oStep := rfl
@[simp] theorem setLatch_enN_oDir (s : State) (b : Bool) : (s.setLatch .enN b).oDir = s.oDir := rfl
@[simp] theorem setLatch_enN_oEnN (s : State) (b : Bool) : (s.setLatch .enN b).oEnN = b := rfl
@[simp] theorem setLatch_enN_oMs (s : State) (b : Bool) : (s.setLatch .enN b).oMs = s.oMs := rfl

@[simp] theorem latchRotation_tgt (s : State) (r : Rotation) : (s.latchRotation r).tgt = s.tgt :=
    by unfold State.latchRotation; split <;> rfl
@[simp] theorem latchRotation_cur (s : State) (r : Rotation) : (s.latchRotation r).cur = s.cur :=
    by unfold State.latchRotation; split <;> rfl
@[simp] theorem latchRotation_cd (s : State) (r : Rotation) : (s.latchRotation r).cd = s.cd :=
    by unfold State.latchRotation; split <;> rfl
@[simp] theorem latchRotation_cdV (s : State) (r : Rotation) : (s.latchRotation r).cdV = s.cdV :=
    by unfold State.latchRotation; split <;> rfl
@[simp] theorem latchRotation_sgEn (s : State) (r : Rotation) : (s.latchRotation r).sgEn = s.sgEn :=
    by unfold State.latchRotation; split <;> rfl
@[simp] theorem latchRotation_masked (s : State) (r : Rotation) : (s.latchRotation r).masked = s.masked :=
    by unfold State.latchRotation; split <;> rfl
@[simp] theorem latchRotation_ctx (s : State) (r : Rotation) : (s.latchRotation r).ctx = s.ctx :=
    by unfold State.latchRotation; split <;> rfl
@[simp] theorem latchRotation_ip (s : State) (r : Rotation) : (s.latchRotation r).ip = s.ip :=
    by unfold State.latchRotation; split <;> rfl
@[simp] theorem latchRotation_fault (s : State) (r : Rotation) : (s.latchRotation r).fault = s.fault :=
    by unfold State.latchRotation; split <;> rfl
@[simp] theorem latchRotation_cfg (s : State) (r : Rotation) : (s.latchRotation r).cfg = s.cfg :=
    by unfold State.latchRotation; split <;> rfl
@[simp] theorem latchRotation_maxh (s : State) (r : Rotation) : (s.latchRotation r).maxh = s.maxh :=
    by unfold State.latchRotation; split <;> rfl
@[simp] theorem latchRotation_oStep (s : State) (r : Rotation) : (s.latchRotation r).oStep = s.oStep :=
    by unfold State.latchRotation; split <;> rfl
@[simp] theorem latchRotation_oDir (s : State) (r : Rotation) : (s.latchRotation r).oDir = s.oDir :=
    by unfold State.latchRotation; split <;> rfl
@[simp] theorem latchRotation_oEnN (s : State) (r : Rotation) : (s.latchRotation r).oEnN = s.oEnN :=
    by unfold State.latchRotation; split <;> rfl
@[simp] theorem latchRotation_oMs (s : State) (r : Rotation) : (s.latchRotation r).oMs = s.oMs :=
    by unfold State.latchRotation; split <;> rfl
@[simp] theorem latchRotation_disp (s : State) (r : Rotation) : (s.latchRotation r).disp = s.disp :=
    by unfold State.latchRotation; split <;> rfl
@[simp] theorem latchRotation_port (s : State) (r : Rotation) : (s.latchRotation r).port = s.port :=
    by unfold State.latchRotation; split <;> rfl
@[simp] theorem latchRotation_env (s : State) (r : Rotation) : (s.latchRotation r).env = s.env :=
    by unfold State.latchRotation; split <;> rfl
@[simp] theorem latchRotation_hist (s : State) (r : Rotation) : (s.latchRotation r).hist = s.hist :=
    by unfold State.latchRotation; split <;> rfl
@[simp] theorem latchRotation_reply (s : State) (r : Rotation) : (s.latchRotation r).reply = s.reply :=
    by unfold State.latchRotation; split <;> rfl

/-! ### Construction and the limit position -/

@[simp] theorem initRegisters_tgt (s : State) : (s.initRegisters).tgt = s.cfg.initTgt := rfl
@[simp] theorem initRegisters_cur (s : State) : (s.initRegisters).cur = none := rfl
@[simp] theorem initRegisters_cd (s : State) : (s.initRegisters).cd = 0#32 := rfl
@[simp] theorem initRegisters_cdV (s : State) : (s.initRegisters).cdV = false := rfl
@[simp] theorem initRegisters_qdPend (s : State) : (s.initRegisters).qdPend = .none := rfl
@[simp] theorem initRegisters_sgEn (s : State) : (s.initRegisters).sgEn = false := rfl
@[simp] theorem initRegisters_masked (s : State) : (s.initRegisters).masked = s.masked := rfl
@[simp] theorem initRegisters_ctx (s : State) : (s.initRegisters).ctx = s.ctx := rfl
@[simp] theorem initRegisters_ip (s : State) : (s.initRegisters).ip = s.ip := rfl
@[simp] theorem initRegisters_fault (s : State) : (s.initRegisters).fault = s.fault := rfl
@[simp] theorem initRegisters_cfg (s : State) : (s.initRegisters).cfg = s.cfg := rfl
@[simp] theorem initRegisters_maxh (s : State) : (s.initRegisters).maxh = BitVec.ofNat 32 (maxSteps s.cfg) := rfl
@[simp] theorem initRegisters_oStep (s : State) : (s.initRegisters).oStep = s.oStep := rfl
@[simp] theorem initRegisters_oDir (s : State) : (s.initRegisters).oDir = s.oDir := rfl
@[simp] theorem initRegisters_oEnN (s : State) : (s.initRegisters).oEnN = s.oEnN := rfl
@[simp] theorem initRegisters_oMs (s : State) : (s.initRegisters).oMs = s.oMs := rfl
@[simp] theorem initRegisters_disp (s : State) : (s.initRegisters).disp = s.disp := rfl
@[simp] theorem initRegisters_port (s : State) : (s.initRegisters).port = s.port := rfl
@[simp] theorem initRegisters_env (s : State) : (s.initRegisters).env = s.env := rfl
@[simp] theorem initRegisters_hist (s : State) : (s.initRegisters).hist = s.hist := rfl
@[simp] theorem initRegisters_reply (s : State) : (s.initRegisters).reply = s.reply := rfl

@[simp] theorem openForeground_tgt (s : State) : (s.openForeground).tgt = s.tgt := rfl
@[simp] theorem openForeground_cur (s : State) : (s.openForeground).cur = s.cur := rfl
@[simp] theorem openForeground_cd (s : State) : (s.openForeground).cd = s.cd := rfl
@[simp] theorem openForeground_cdV (s : State) : (s.openForeground).cdV = s.cdV := rfl
@[simp] theorem openForeground_qdPend (s : State) : (s.openForeground).qdPend = s.qdPend := rfl
@[simp] theorem openForeground_sgEn (s : State) : (s.openForeground).sgEn = s.sgEn := rfl
@[simp] theorem openForeground_masked (s : State) : (s.openForeground).masked = false := rfl
@[simp] theorem openForeground_ctx (s : State) : (s.openForeground).ctx = .fgOpen := rfl
@[simp] theorem openForeground_ip (s : State) : (s.openForeground).ip = 0#3 := rfl
@[simp] theorem openForeground_fault (s : State) : (s.openForeground).fault = s.fault := rfl
@[simp] theorem openForeground_cfg (s : State) : (s.openForeground).cfg = s.cfg := rfl
@[simp] theorem openForeground_maxh (s : State) : (s.openForeground).maxh = s.maxh := rfl
@[simp] theorem openForeground_oStep (s : State) : (s.openForeground).oStep = s.oStep := rfl
@[simp] theorem openForeground_oDir (s : State) : (s.openForeground).oDir = s.oDir := rfl
@[simp] theorem openForeground_oEnN (s : State) : (s.openForeground).oEnN = s.oEnN := rfl
@[simp] theorem openForeground_oMs (s : State) : (s.openForeground).oMs = s.oMs := rfl
@[simp] theorem openForeground_disp (s : State) : (s.openForeground).disp = s.disp := rfl
@[simp] theorem openForeground_port (s : State) : (s.openForeground).port = s.port := rfl
@[simp] theorem openForeground_env (s : State) : (s.openForeground).env = s.env := rfl
@[simp] theorem openForeground_hist (s : State) : (s.openForeground).hist = s.hist := rfl
@[simp] theorem openForeground_reply (s : State) : (s.openForeground).reply = s.reply := rfl

@[simp] theorem atLimit_tgt (s : State) : (s.atLimit).tgt = s.cfg.limitOfs := rfl
@[simp] theorem atLimit_cur (s : State) : (s.atLimit).cur = some s.cfg.limitOfs := rfl
@[simp] theorem atLimit_cd (s : State) : (s.atLimit).cd = s.cd := rfl
@[simp] theorem atLimit_cdV (s : State) : (s.atLimit).cdV = s.cdV := rfl
@[simp] theorem atLimit_qdPend (s : State) : (s.atLimit).qdPend = s.qdPend := rfl
@[simp] theorem atLimit_sgEn (s : State) : (s.atLimit).sgEn = s.sgEn := rfl
@[simp] theorem atLimit_masked (s : State) : (s.atLimit).masked = s.masked := rfl
@[simp] theorem atLimit_ctx (s : State) : (s.atLimit).ctx = s.ctx := rfl
@[simp] theorem atLimit_ip (s : State) : (s.atLimit).ip = s.ip := rfl
@[simp] theorem atLimit_fault (s : State) : (s.atLimit).fault = s.fault := rfl
@[simp] theorem atLimit_cfg (s : State) : (s.atLimit).cfg = s.cfg := rfl
@[simp] theorem atLimit_maxh (s : State) : (s.atLimit).maxh = s.maxh := rfl
@[simp] theorem atLimit_oStep (s : State) : (s.atLimit).oStep = s.oStep := rfl
@[simp] theorem atLimit_oDir (s : State) : (s.atLimit).oDir = s.oDir := rfl
@[simp] theorem atLimit_oEnN (s : State) : (s.atLimit).oEnN = s.oEnN := rfl
@[simp] theorem atLimit_oMs (s : State) : (s.atLimit).oMs = s.oMs := rfl
@[simp] theorem atLimit_disp (s : State) : (s.atLimit).disp = s.disp := rfl
@[simp] theorem atLimit_port (s : State) : (s.atLimit).port = s.port := rfl
@[simp] theorem atLimit_env (s : State) : (s.atLimit).env = s.env := rfl
@[simp] theorem atLimit_hist (s : State) : (s.atLimit).hist = s.hist := rfl
@[simp] theorem atLimit_reply (s : State) : (s.atLimit).reply = s.reply := rfl

end Sys2Proof.Machine.State
end

