-- ==== Sys2Proof/Laws/Ops.lean ====
section
/-! SUPPORT. What each shared operation does, said once: the algebra of Run, the port accesses, the pulse train, and the
predicates that every access keeps. -/

namespace Sys2Proof.Machine

open Sys2Proof

variable {α β γ : Type}

/-! ### Run -/

@[simp] theorem Run.ret_st (a : α) (s : State) : (Run.ret a s).st = s := rfl

@[simp] theorem Run.ret_val (a : α) (s : State) : (Run.ret a s).val = some a := rfl

@[simp] theorem Run.ret_bind (a : α) (s : State) (f : α → State → Run β) : (Run.ret a s).bind f = f a s := rfl

@[simp] theorem raise_st (f : BlockFault) (s : State) : (raise f s : Run α).st = s.takeFault f := rfl

@[simp] theorem raise_val (f : BlockFault) (s : State) : (raise f s : Run α).val = none := rfl

/-- After a fault no later line runs (R13). -/
@[simp] theorem raise_bind (f : BlockFault) (s : State) (g : α → State → Run β) :
    (raise f s : Run α).bind g = raise f s := rfl

theorem Run.bind_assoc (r : Run α) (f : α → State → Run β) (g : β → State → Run γ) :
    (r.bind f).bind g = r.bind fun a s => (f a s).bind g := by
  obtain ⟨st, val⟩ := r
  cases val <;> rfl

/-- A predicate holds after a sequence if it holds after its first part and the rest keeps it. -/
theorem Run.bind_holds {P : State → Prop} {r : Run α} {f : α → State → Run β} (h : P r.st)
    (hf : ∀ a, r.val = some a → P (f a r.st).st) : P (r.bind f).st := by
  obtain ⟨st, val⟩ := r
  cases val with
  | none => exact h
  | some a => exact hf a rfl

/-- The same where the rest keeps the predicate from every state. -/
theorem Run.bind_keeps {P : State → Prop} {r : Run α} {f : α → State → Run β} (h : P r.st)
    (hf : ∀ a t, P t → P (f a t).st) : P (r.bind f).st :=
  Run.bind_holds h fun a _ => hf a _ h

/-- What `runIf` answers: the body's state if the request is legal, else the refusal of R101. -/
theorem runIf_next {legal : Bool} {r : Run α} {t : State} :
    runIf legal r = .next t ↔ legal = true ∧ r.st = t := by
  cases legal <;> simp [runIf]

theorem runIf_refused {legal : Bool} {r : Run α} (h : legal = false) :
    runIf legal r = .refused .illegalInContext := by
  simp [runIf, h]

/-! ### Passing time -/

@[simp] theorem State.passes_zero (s : State) : s.passes 0 = s := rfl

@[simp] theorem State.passes_one (s : State) : s.passes 1 = s.pass := rfl

theorem State.passes_succ (s : State) (n : Nat) : s.passes (n + 1) = s.pass.passes n := rfl

theorem State.passes_add (s : State) (m n : Nat) : s.passes (m + n) = (s.passes m).passes n := by
  induction m generalizing s with
  | zero => simp
  | succ m ih => rw [Nat.succ_add, passes_succ, passes_succ, ih]

/-- Accesses passing change the environment and the pending latches and nothing else (R73). -/
theorem State.passes_eq (s : State) (n : Nat) :
    s.passes n = { s with ip := (s.passes n).ip, env := (s.passes n).env } := by
  induction n generalizing s with
  | zero => rfl
  | succ n ih => rw [passes_succ, ih]; rfl

@[simp] theorem State.passes_tgt (s : State) (n : Nat) : (s.passes n).tgt = s.tgt := by rw [passes_eq]
@[simp] theorem State.passes_cur (s : State) (n : Nat) : (s.passes n).cur = s.cur := by rw [passes_eq]
@[simp] theorem State.passes_cd (s : State) (n : Nat) : (s.passes n).cd = s.cd := by rw [passes_eq]
@[simp] theorem State.passes_cdV (s : State) (n : Nat) : (s.passes n).cdV = s.cdV := by rw [passes_eq]
@[simp] theorem State.passes_qdPend (s : State) (n : Nat) : (s.passes n).qdPend = s.qdPend := by rw [passes_eq]
@[simp] theorem State.passes_sgEn (s : State) (n : Nat) : (s.passes n).sgEn = s.sgEn := by rw [passes_eq]
@[simp] theorem State.passes_masked (s : State) (n : Nat) : (s.passes n).masked = s.masked := by rw [passes_eq]
@[simp] theorem State.passes_ctx (s : State) (n : Nat) : (s.passes n).ctx = s.ctx := by rw [passes_eq]
@[simp] theorem State.passes_fault (s : State) (n : Nat) : (s.passes n).fault = s.fault := by rw [passes_eq]
@[simp] theorem State.passes_cfg (s : State) (n : Nat) : (s.passes n).cfg = s.cfg := by rw [passes_eq]
@[simp] theorem State.passes_maxh (s : State) (n : Nat) : (s.passes n).maxh = s.maxh := by rw [passes_eq]
@[simp] theorem State.passes_oStep (s : State) (n : Nat) : (s.passes n).oStep = s.oStep := by rw [passes_eq]
@[simp] theorem State.passes_oDir (s : State) (n : Nat) : (s.passes n).oDir = s.oDir := by rw [passes_eq]
@[simp] theorem State.passes_oEnN (s : State) (n : Nat) : (s.passes n).oEnN = s.oEnN := by rw [passes_eq]
@[simp] theorem State.passes_oMs (s : State) (n : Nat) : (s.passes n).oMs = s.oMs := by rw [passes_eq]
@[simp] theorem State.passes_disp (s : State) (n : Nat) : (s.passes n).disp = s.disp := by rw [passes_eq]
@[simp] theorem State.passes_port (s : State) (n : Nat) : (s.passes n).port = s.port := by rw [passes_eq]
@[simp] theorem State.passes_hist (s : State) (n : Nat) : (s.passes n).hist = s.hist := by rw [passes_eq]
@[simp] theorem State.passes_reply (s : State) (n : Nat) : (s.passes n).reply = s.reply := by rw [passes_eq]

theorem State.grants_zero (s : State) : s.grants 0 := fun k h => absurd h (Nat.not_lt_zero k)

theorem State.grants_succ (s : State) (n : Nat) : s.grants (n + 1) ↔ s.granted = true ∧ s.pass.grants n := by
  refine ⟨fun h => ⟨h 0 n.succ_pos, fun k hk => h (k + 1) (Nat.succ_lt_succ hk)⟩, fun h k hk => ?_⟩
  cases k with
  | zero => exact h.1
  | succ k => exact h.2 k (Nat.lt_of_succ_lt_succ hk)

theorem State.grants_add (s : State) (m n : Nat) : s.grants (m + n) ↔ s.grants m ∧ (s.passes m).grants n := by
  induction m generalizing s with
  | zero => exact ⟨fun h => ⟨s.grants_zero, by simpa using h⟩, fun h => by simpa using h.2⟩
  | succ m ih => rw [Nat.succ_add, grants_succ, grants_succ, ih, and_assoc, passes_succ]

/-- With `IO_FAULTS = Never` every request succeeds (R202). -/
theorem State.granted_of_never {s : State} (h : s.cfg.ioFaults = false) : s.granted = true := by
  simp [granted, h]

theorem State.grants_of_never {s : State} (h : s.cfg.ioFaults = false) (n : Nat) : s.grants n := by
  induction n generalizing s with
  | zero => exact s.grants_zero
  | succ n ih => exact (s.grants_succ n).2 ⟨granted_of_never h, ih h⟩

/-- Where an operation of unit 1, 2 or 3 can be requested, as the statements say it (R101). -/
theorem State.canCall_iff (s : State) : s.canCall = true ↔ s.InCall := by
  unfold canCall InCall
  cases hx : s.ctx <;> cases s.masked <;> simp [Ctx.isBody]

theorem State.canCall_false (s : State) : s.canCall = false ↔ ¬s.InCall := by
  rw [← canCall_iff]; simp

theorem State.inBody_iff (s : State) (c : Ctx) : s.inBody c = true ↔ s.masked = true ∧ s.ctx = c := by
  simp [inBody]

theorem State.inBody_false (s : State) (c : Ctx) : s.inBody c = false ↔ ¬(s.masked = true ∧ s.ctx = c) := by
  rw [← inBody_iff]; simp

/-- A request whose `require` holds runs to a next state. -/
theorem runIf_legal {legal : Bool} {r : Run α} (h : legal = true) : runIf legal r = .next r.st := by
  simp [runIf, h]

/-- Fault entry, as the statements say it (R203). -/
theorem State.takeFault_eq (s : State) (f : BlockFault) : s.takeFault f = s.haltedWith (BlockFault.latch f) := rfl

theorem latch_display (k : DisplayFailure) : BlockFault.latch (.display k) = displayCode k := by
  cases k <;> rfl

/-- A latch that holds a fault has its V bit set (R30). -/
theorem latch_valid (f : BlockFault) : (BlockFault.latch f).getLsbD 7 = true := by
  simp only [BlockFault.latch]
  generalize BlockFault.cls f = a
  generalize BlockFault.tag f = b
  revert a b; decide

/-- A display write that the environment fails with a kind raises that kind (R64). -/
theorem State.failing {s : State} {kind : DisplayFailure} (h : s.cfg.ioFaults = true)
    (ha : s.instant.answer = .fails kind) : s.granted = false ∧ s.failureKind = kind := by
  simp [granted, failureKind, h, ha]

/-- Every request sequence is granted as a whole or fails first at some access (R66). -/
theorem State.grants_or_fails (s : State) (n : Nat) :
    s.grants n ∨ ∃ k, k < n ∧ s.grants k ∧ (s.passes k).granted = false := by
  induction n generalizing s with
  | zero => exact .inl s.grants_zero
  | succ n ih =>
    cases h0 : s.granted with
    | false => exact .inr ⟨0, n.succ_pos, s.grants_zero, h0⟩
    | true =>
      rcases ih s.pass with h | ⟨k, hk, h1, h2⟩
      · exact .inl ((s.grants_succ n).2 ⟨h0, h⟩)
      · exact .inr ⟨k + 1, Nat.succ_lt_succ hk, (s.grants_succ k).2 ⟨h0, h1⟩, h2⟩

/-! ### Port accesses: each succeeds as a whole or fails as a whole (R62 to R64, R66) -/

theorem pinRead_granted {s : State} (p : InPin) (h : s.granted = true) :
    pinRead p s = .ret (s.pass.level p) s.pass := by
  simp [pinRead, h]

theorem pinRead_failed {s : State} (p : InPin) (h : s.granted = false) :
    pinRead p s = raise (.io (InPin.role p)) s.pass := by
  simp [pinRead, h]

theorem pinWrite_granted {s : State} (p : OutPin) (b : Bool) (h : s.granted = true) :
    pinWrite p b s = .ret () ((s.pass.setLatch p b).record (.pin p b)) := by
  simp [pinWrite, h]

theorem pinWrite_failed {s : State} (p : OutPin) (b : Bool) (h : s.granted = false) :
    pinWrite p b s = raise (.io (OutPin.role p)) s.pass := by
  simp [pinWrite, h]

theorem dispWrite_granted {s : State} (f : Frame) (h : s.granted = true) :
    dispWrite f s = .ret () (s.shown (shownFrame f)) := by
  simp [dispWrite, h, State.shown, State.record, State.setDisp]

theorem dispWrite_failed {s : State} (f : Frame) (h : s.granted = false) :
    dispWrite f s = raise (.display s.failureKind) s.pass := by
  simp [dispWrite, h]

/-- A height that fits the two-digit field is shown as it is. -/
theorem shownFrame_of_fits {mm : Word} (h : fitsDisplay mm = true) : shownFrame (.height mm) = .height mm := by
  simp [shownFrame, h]

/-! ### Predicates that every access keeps -/

/-- A predicate on states that passing time, a fault, a line write, a frame write and the enable flag keep: what every
part of the StepGenerator and of the display port keeps. -/
structure AccessStable (P : State → Prop) : Prop where
  pass : ∀ s, P s → P s.pass
  fault : ∀ s f, P s → P (s.takeFault f)
  line : ∀ s p b, P s → P ((s.setLatch p b).record (.pin p b))
  frame : ∀ s f, P s → P ((s.setDisp (.frame (shownFrame f))).record (.disp (shownFrame f)))
  enabled : ∀ s b, P s → P (s.setSgEn b)

theorem AccessStable.pinRead {P : State → Prop} (hP : AccessStable P) (p : InPin) {s : State} (h : P s) :
    P (pinRead p s).st := by
  unfold Machine.pinRead
  split
  · exact hP.pass s h
  · exact hP.fault _ _ (hP.pass s h)

theorem AccessStable.pinWrite {P : State → Prop} (hP : AccessStable P) (p : OutPin) (b : Bool) {s : State} (h : P s) :
    P (pinWrite p b s).st := by
  unfold Machine.pinWrite
  split
  · exact hP.line _ p b (hP.pass s h)
  · exact hP.fault _ _ (hP.pass s h)

theorem AccessStable.dispUpdate {P : State → Prop} (hP : AccessStable P) (f : Frame) {s : State} (h : P s) :
    P (dispUpdate f s).st := by
  unfold Machine.dispUpdate dispWrite
  split
  · exact hP.frame _ f (hP.pass s h)
  · exact hP.fault _ _ (hP.pass s h)

theorem AccessStable.clockRead {P : State → Prop} (hP : AccessStable P) {s : State} (h : P s) :
    P (clockRead s).st :=
  hP.pass s h

theorem AccessStable.sgEnable {P : State → Prop} (hP : AccessStable P) {s : State} (h : P s) : P (sgEnable s).st :=
  Run.bind_keeps (hP.pinWrite _ _ h) fun _ _ h => hP.enabled _ _ h

theorem AccessStable.sgDisable {P : State → Prop} (hP : AccessStable P) {s : State} (h : P s) : P (sgDisable s).st :=
  Run.bind_keeps (hP.pinWrite _ _ h) fun _ _ h => hP.enabled _ _ h

theorem AccessStable.sgPulse {P : State → Prop} (hP : AccessStable P) {s : State} (h : P s) : P (sgPulse s).st :=
  Run.bind_keeps (hP.pinWrite _ _ h) fun _ _ h => Run.bind_keeps h fun _ _ h =>
    Run.bind_keeps (hP.pinWrite _ _ h) fun _ _ h => h

theorem AccessStable.sgTrain {P : State → Prop} (hP : AccessStable P) (n : Nat) {s : State} (h : P s) :
    P (sgTrain n s).st := by
  induction n generalizing s with
  | zero => exact h
  | succ n ih => exact Run.bind_keeps (hP.sgPulse h) fun _ _ h => ih h

theorem AccessStable.sgRotate {P : State → Prop} (hP : AccessStable P) (d : Bool) (steps : Word) {s : State} (h : P s) :
    P (sgRotate d steps s).st := by
  refine Run.bind_keeps (hP.pinWrite _ _ h) fun _ t1 h1 => Run.bind_keeps ?_ fun _ t2 h2 =>
    Run.bind_keeps (hP.sgTrain _ h2) fun _ t3 h3 => ?_
  · split
    · exact h1
    · exact hP.sgEnable h1
  · split
    · exact h3
    · exact hP.sgDisable h3

theorem AccessStable.sgSetMode {P : State → Prop} (hP : AccessStable P) (m : MicrostepMode) {s : State} (h : P s) :
    P (sgSetMode m s).st := by
  refine Run.bind_keeps (hP.pinWrite _ _ h) fun _ t1 h1 => Run.bind_keeps (hP.pinWrite _ _ h1) fun _ t2 h2 => ?_
  split
  · exact hP.pinWrite _ _ h2
  · exact h2

end Sys2Proof.Machine
end

