-- ==== Sys2Proof/Laws/World.lean ====
section
/-! SUPPORT. What the environment does depends on nothing the block's own registers hold: two states that share their
configuration, environment, pending latches and arming go through the same instants. From this, the result of each
StepGenerator and display operation whose requests are all granted. -/

namespace Sys2Proof.Machine

open Sys2Proof

/-- The two states meet the same environment from here on. -/
structure SameWorld (s t : State) : Prop where
  cfg : s.cfg = t.cfg
  armed : s.armed = t.armed
  env : s.env = t.env
  ip : s.ip = t.ip

namespace SameWorld

variable {s t u : State}

theorem refl (s : State) : SameWorld s s := ⟨rfl, rfl, rfl, rfl⟩

theorem symm (h : SameWorld s t) : SameWorld t s := ⟨h.cfg.symm, h.armed.symm, h.env.symm, h.ip.symm⟩

theorem trans (h : SameWorld s t) (k : SameWorld t u) : SameWorld s u :=
  ⟨h.cfg.trans k.cfg, h.armed.trans k.armed, h.env.trans k.env, h.ip.trans k.ip⟩

theorem instant (h : SameWorld s t) : s.instant = t.instant := by
  simp only [State.instant, h.env]

theorem movedPins (h : SameWorld s t) : s.movedPins = t.movedPins := by
  simp only [State.movedPins, h.instant, h.cfg, h.armed, h.env, h.ip]

theorem granted (h : SameWorld s t) : s.granted = t.granted := by
  simp only [State.granted, h.instant, h.cfg]

theorem failureKind (h : SameWorld s t) : s.failureKind = t.failureKind := by
  simp only [State.failureKind, h.instant]

theorem pass (h : SameWorld s t) : SameWorld s.pass t.pass where
  cfg := h.cfg
  armed := h.armed
  env := by simp only [State.pass, h.movedPins, h.instant, h.env]
  ip := by simp only [State.pass, h.movedPins]

theorem passes (h : SameWorld s t) (n : Nat) : SameWorld (s.passes n) (t.passes n) := by
  induction n generalizing s t with
  | zero => exact h
  | succ n ih => exact ih h.pass

theorem level (h : SameWorld s t) (p : InPin) : s.level p = t.level p := by
  simp only [State.level, h.env]

theorem grants (h : SameWorld s t) {n : Nat} (g : s.grants n) : t.grants n := fun k hk =>
  ((h.passes k).granted).symm.trans (g k hk)

/-- The accesses of one state, said with those of the other. -/
theorem passes_eq (h : SameWorld s t) (n : Nat) :
    t.passes n = { t with ip := (s.passes n).ip, env := (s.passes n).env } := by
  rw [State.passes_eq t n, (h.passes n).ip, (h.passes n).env]

end SameWorld

/-! ### Operations whose requests are granted -/

theorem sgEnable_granted {s : State} (h : s.granted = true) :
    sgEnable s = .ret () { s.pass with oEnN := false, sgEn := true, hist := s.hist ++ [.pin .enN false] } := by
  simp only [sgEnable, pinWrite_granted _ _ h, Run.ret_bind]; rfl

theorem sgEnable_failed {s : State} (h : s.granted = false) : sgEnable s = raise (.io .enable) s.pass := by
  simp only [sgEnable, pinWrite_failed _ _ h, raise_bind]; rfl

theorem sgDisable_granted {s : State} (h : s.granted = true) :
    sgDisable s = .ret () { s.pass with oEnN := true, sgEn := false, hist := s.hist ++ [.pin .enN true] } := by
  simp only [sgDisable, pinWrite_granted _ _ h, Run.ret_bind]; rfl

theorem sgDisable_failed {s : State} (h : s.granted = false) : sgDisable s = raise (.io .enable) s.pass := by
  simp only [sgDisable, pinWrite_failed _ _ h, raise_bind]; rfl

/-! ### Runs of line writes -/

/-- The lines written one after the other. -/
def writeAll : List (OutPin × Bool) → State → Run Unit
  | [], s => .ret () s
  | w :: ws, s => (pinWrite w.1 w.2 s).bind fun _ s => writeAll ws s

/-- The state after the lines have all been written. -/
def State.written (s : State) : List (OutPin × Bool) → State
  | [] => s
  | w :: ws => ((s.pass.setLatch w.1 w.2).record (.pin w.1 w.2)).written ws

/-- The event of a line write (R37). -/
def eventOf (w : OutPin × Bool) : OutEvent :=
  .pin w.1 w.2

theorem writeAll_append (ws vs : List (OutPin × Bool)) (s : State) :
    writeAll (ws ++ vs) s = (writeAll ws s).bind fun _ s => writeAll vs s := by
  induction ws generalizing s with
  | nil => rfl
  | cons w ws ih => simp only [List.cons_append, writeAll, Run.bind_assoc, ih]

theorem State.written_append (ws vs : List (OutPin × Bool)) (s : State) :
    s.written (ws ++ vs) = (s.written ws).written vs := by
  induction ws generalizing s with
  | nil => rfl
  | cons w ws ih => simp only [List.cons_append, written, ih]

/-- After one write the environment is where it is after one access. -/
theorem sameWorld_write (s : State) (w : OutPin × Bool) :
    SameWorld s.pass ((s.pass.setLatch w.1 w.2).record (.pin w.1 w.2)) := by
  refine ⟨?_, ?_, ?_, ?_⟩ <;> simp [State.armed]

/-- After the writes the environment is where it is after as many accesses. -/
theorem sameWorld_written (s : State) (ws : List (OutPin × Bool)) :
    SameWorld (s.passes ws.length) (s.written ws) := by
  induction ws generalizing s with
  | nil => exact .refl s
  | cons w ws ih => exact ((sameWorld_write s w).passes ws.length).trans (ih _)

/-- Writes that are all granted all happen. -/
theorem writeAll_granted {s : State} {ws : List (OutPin × Bool)} (h : s.grants ws.length) :
    writeAll ws s = .ret () (s.written ws) := by
  induction ws generalizing s with
  | nil => rfl
  | cons w ws ih =>
    obtain ⟨h0, h1⟩ := (s.grants_succ ws.length).1 h
    rw [writeAll, pinWrite_granted _ _ h0, Run.ret_bind]
    exact ih ((sameWorld_write s w).grants h1)

/-- The first write that is not granted raises the fault of its line, after those before it (R66, R136). -/
theorem writeAll_failed {s : State} {ws : List (OutPin × Bool)} {k : Nat} {w : OutPin × Bool} (hw : ws[k]? = some w)
    (h : s.grants k) (hf : (s.passes k).granted = false) :
    writeAll ws s = raise (.io (OutPin.role w.1)) (s.written (ws.take k)).pass := by
  induction ws generalizing s k with
  | nil => simp at hw
  | cons v vs ih =>
    cases k with
    | zero =>
      obtain rfl : v = w := by simpa using hw
      rw [writeAll, pinWrite_failed _ _ (show s.granted = false from hf), raise_bind]; rfl
    | succ k =>
      obtain ⟨h0, h1⟩ := (s.grants_succ k).1 h
      have e := sameWorld_write s v
      rw [writeAll, pinWrite_granted _ _ h0, Run.ret_bind,
        ih (by simpa using hw) (e.grants h1) ((e.passes k).granted ▸ hf)]
      rfl

@[simp] theorem State.written_tgt (s : State) (ws : List (OutPin × Bool)) : (s.written ws).tgt = s.tgt := by
  induction ws generalizing s with
  | nil => rfl
  | cons w ws ih => simp [written, ih]

@[simp] theorem State.written_cur (s : State) (ws : List (OutPin × Bool)) : (s.written ws).cur = s.cur := by
  induction ws generalizing s with
  | nil => rfl
  | cons w ws ih => simp [written, ih]

@[simp] theorem State.written_cd (s : State) (ws : List (OutPin × Bool)) : (s.written ws).cd = s.cd := by
  induction ws generalizing s with
  | nil => rfl
  | cons w ws ih => simp [written, ih]

@[simp] theorem State.written_cdV (s : State) (ws : List (OutPin × Bool)) : (s.written ws).cdV = s.cdV := by
  induction ws generalizing s with
  | nil => rfl
  | cons w ws ih => simp [written, ih]

@[simp] theorem State.written_qdPend (s : State) (ws : List (OutPin × Bool)) : (s.written ws).qdPend = s.qdPend := by
  induction ws generalizing s with
  | nil => rfl
  | cons w ws ih => simp [written, ih]

@[simp] theorem State.written_sgEn (s : State) (ws : List (OutPin × Bool)) : (s.written ws).sgEn = s.sgEn := by
  induction ws generalizing s with
  | nil => rfl
  | cons w ws ih => simp [written, ih]

@[simp] theorem State.written_masked (s : State) (ws : List (OutPin × Bool)) : (s.written ws).masked = s.masked := by
  induction ws generalizing s with
  | nil => rfl
  | cons w ws ih => simp [written, ih]

@[simp] theorem State.written_ctx (s : State) (ws : List (OutPin × Bool)) : (s.written ws).ctx = s.ctx := by
  induction ws generalizing s with
  | nil => rfl
  | cons w ws ih => simp [written, ih]

@[simp] theorem State.written_fault (s : State) (ws : List (OutPin × Bool)) : (s.written ws).fault = s.fault := by
  induction ws generalizing s with
  | nil => rfl
  | cons w ws ih => simp [written, ih]

@[simp] theorem State.written_cfg (s : State) (ws : List (OutPin × Bool)) : (s.written ws).cfg = s.cfg := by
  induction ws generalizing s with
  | nil => rfl
  | cons w ws ih => simp [written, ih]

@[simp] theorem State.written_maxh (s : State) (ws : List (OutPin × Bool)) : (s.written ws).maxh = s.maxh := by
  induction ws generalizing s with
  | nil => rfl
  | cons w ws ih => simp [written, ih]

@[simp] theorem State.written_disp (s : State) (ws : List (OutPin × Bool)) : (s.written ws).disp = s.disp := by
  induction ws generalizing s with
  | nil => rfl
  | cons w ws ih => simp [written, ih]

@[simp] theorem State.written_port (s : State) (ws : List (OutPin × Bool)) : (s.written ws).port = s.port := by
  induction ws generalizing s with
  | nil => rfl
  | cons w ws ih => simp [written, ih]

@[simp] theorem State.written_reply (s : State) (ws : List (OutPin × Bool)) : (s.written ws).reply = s.reply := by
  induction ws generalizing s with
  | nil => rfl
  | cons w ws ih => simp [written, ih]

@[simp] theorem State.written_hist (s : State) (ws : List (OutPin × Bool)) :
    (s.written ws).hist = s.hist ++ ws.map eventOf := by
  induction ws generalizing s with
  | nil => simp [written]
  | cons w ws ih => simp [written, ih, eventOf]

theorem State.written_env (s : State) (ws : List (OutPin × Bool)) :
    (s.written ws).env = (s.passes ws.length).env :=
  (sameWorld_written s ws).env.symm

theorem State.written_ip (s : State) (ws : List (OutPin × Bool)) :
    (s.written ws).ip = (s.passes ws.length).ip :=
  (sameWorld_written s ws).ip.symm

/-- The step, direction and enable lines after the writes are those their events leave (R32, R37). -/
theorem State.written_lines (s : State) (ws : List (OutPin × Bool)) :
    (s.written ws).lines = (ws.map eventOf).foldl Lines.after s.lines := by
  induction ws generalizing s with
  | nil => rfl
  | cons w ws ih =>
    rw [written, ih, List.map_cons, List.foldl_cons]
    congr 1
    obtain ⟨p, b⟩ := w
    cases p <;> rfl

/-- Writes to other lines than the mode lines leave the mode latches. -/
theorem State.written_oMs (s : State) {ws : List (OutPin × Bool)}
    (h : ∀ w ∈ ws, w.1 = .step ∨ w.1 = .dir ∨ w.1 = .enN) : (s.written ws).oMs = s.oMs := by
  induction ws generalizing s with
  | nil => rfl
  | cons w ws ih =>
    rw [written, ih _ fun v hv => h v (List.mem_cons_of_mem _ hv)]
    obtain ⟨p, b⟩ := w
    rcases h _ (List.mem_cons_self ..) with hp | hp | hp <;> cases hp <;> rfl

/-! ### SG.ROTATE as a run of line writes -/

/-- The writes of `n` step pulses. -/
def pulseWrites : Nat → List (OutPin × Bool)
  | 0 => []
  | n + 1 => (.step, true) :: (.step, false) :: pulseWrites n

@[simp] theorem pulseWrites_length (n : Nat) : (pulseWrites n).length = 2 * n := by
  induction n with
  | zero => rfl
  | succ n ih => simp only [pulseWrites, List.length_cons, ih]; omega

@[simp] theorem pulseWrites_events (n : Nat) : (pulseWrites n).map eventOf = pulseEvents n := by
  induction n with
  | zero => rfl
  | succ n ih => simp only [pulseWrites, List.map_cons, ih]; rfl

theorem pulseWrites_step (n : Nat) : ∀ w ∈ pulseWrites n, w.1 = .step ∨ w.1 = .dir ∨ w.1 = .enN := by
  induction n with
  | zero => simp [pulseWrites]
  | succ n ih => simpa [pulseWrites] using ih

/-- A train ends with STEP low and leaves the other lines (R135). -/
theorem pulseEvents_lines (n : Nat) (l : Lines) :
    (pulseEvents n).foldl Lines.after l = { l with step := if n = 0 then l.step else false } := by
  induction n generalizing l with
  | zero => rfl
  | succ n ih => simp [pulseEvents, ih, Lines.after]

theorem sgTrain_eq_writeAll (n : Nat) (s : State) : sgTrain n s = writeAll (pulseWrites n) s := by
  induction n generalizing s with
  | zero => rfl
  | succ n ih => simp only [sgTrain, sgPulse, delay, pulseWrites, writeAll, Run.bind_assoc, Run.ret_bind, ih]

/-- SG.ROTATE with the driver enabled on entry (R135). -/
theorem sgRotate_enabled (d : Bool) (steps : Word) {s : State} (h : s.sgEn = true) :
    sgRotate d steps s = writeAll ((.dir, d) :: pulseWrites steps.toNat) s := by
  simp only [sgRotate, h, if_true, Run.ret_bind, sgTrain_eq_writeAll, writeAll]
  congr 1; funext _ t
  generalize writeAll (pulseWrites steps.toNat) t = r
  obtain ⟨st, val⟩ := r
  cases val <;> rfl

/-- SG.ROTATE with the driver disabled on entry: the writes, with the enable flag set and cleared on the way (R135). -/
theorem sgRotate_disabled (d : Bool) (steps : Word) {s : State} (h : s.sgEn = false) :
    sgRotate d steps s =
      (writeAll [(.dir, d), (.enN, false)] s).bind fun _ s =>
        (writeAll (pulseWrites steps.toNat ++ [(.enN, true)]) (s.setSgEn true)).bind fun _ s =>
          .ret () (s.setSgEn false) := by
  simp only [sgRotate, h, Bool.false_eq_true, if_false, sgEnable, sgDisable, sgTrain_eq_writeAll, writeAll_append, writeAll,
    Run.bind_assoc, Run.ret_bind]

/-- A whole SG.ROTATE (R135). -/
theorem sgRotate_granted (d : Bool) (steps : Word) {s : State}
    (h : s.grants (rotateAccesses s.sgEn steps.toNat)) :
    sgRotate d steps s = .ret () (s.rotated d steps.toNat) := by
  generalize hn : steps.toNat = n at h
  cases he : s.sgEn with
  | true =>
    rw [he] at h
    rw [sgRotate_enabled d steps he, hn, writeAll_granted (by simpa [rotateAccesses] using h)]
    congr 1
    have hl := s.written_lines ((.dir, d) :: pulseWrites n)
    simp only [List.map_cons, pulseWrites_events, List.foldl_cons, pulseEvents_lines, State.lines, Lines.mk.injEq] at hl
    have hm := s.written_oMs (ws := (.dir, d) :: pulseWrites n) (by simpa using pulseWrites_step n)
    have hx := s.written_env ((.dir, d) :: pulseWrites n)
    have hi := s.written_ip ((.dir, d) :: pulseWrites n)
    simp only [List.length_cons, pulseWrites_length] at hx hi
    rw [State.rotated, State.passes_eq s]
    apply State.ext <;> simp [hl, hm, hx, hi, he, rotateEvents, rotateAccesses, eventOf, Lines.after]
  | false =>
    rw [he] at h
    have hk : [((.dir : OutPin), d), (.enN, false)].length + (pulseWrites n ++ [((.enN : OutPin), true)]).length
        = 2 * n + 3 := by
      simp; omega
    have hg : s.grants ([((.dir : OutPin), d), (.enN, false)].length +
        (pulseWrites n ++ [((.enN : OutPin), true)]).length) := by
      rw [hk]; simpa [rotateAccesses] using h
    obtain ⟨h1, h2⟩ := (s.grants_add _ _).1 hg
    rw [sgRotate_disabled d steps he, hn, writeAll_granted h1, Run.ret_bind]
    have w : SameWorld (s.passes 2) ((s.written [(.dir, d), (.enN, false)]).setSgEn true) :=
      (sameWorld_written s [(.dir, d), (.enN, false)]).trans ⟨rfl, rfl, rfl, rfl⟩
    rw [writeAll_granted (w.grants h2), Run.ret_bind]
    congr 1
    generalize ht : (s.written [(.dir, d), (.enN, false)]).setSgEn true = t at w
    have hl := t.written_lines (pulseWrites n ++ [(.enN, true)])
    simp only [List.map_append, pulseWrites_events, List.foldl_append, pulseEvents_lines, State.lines,
      Lines.mk.injEq, List.map_cons, List.map_nil, List.foldl_cons, List.foldl_nil, eventOf, Lines.after] at hl
    have hm := t.written_oMs (ws := pulseWrites n ++ [(.enN, true)]) (by
      intro v hv
      rcases List.mem_append.1 hv with hv | hv
      · exact pulseWrites_step n v hv
      · simp at hv; simp [hv])
    have hx := (t.written_env (pulseWrites n ++ [(.enN, true)])).trans (w.passes _).env.symm
    have hi := (t.written_ip (pulseWrites n ++ [(.enN, true)])).trans (w.passes _).ip.symm
    rw [← State.passes_add, show 2 + (pulseWrites n ++ [((.enN : OutPin), true)]).length = 2 * n + 3 from hk] at hx hi
    rw [State.rotated, State.passes_eq s]
    subst ht
    have q : (s.written [(.dir, d), (.enN, false)]).oStep = s.oStep ∧ (s.written [(.dir, d), (.enN, false)]).oDir = d ∧
      (s.written [(.dir, d), (.enN, false)]).oMs = s.oMs := by simp [State.written]
    apply State.ext <;> simp [hl, hm, hx, hi, he, q, rotateEvents, rotateAccesses, eventOf]

end Sys2Proof.Machine
end

