-- ==== Sys2Proof/Laws/Generator.lean ====
section
/-! SUPPORT. SG.ROTATE and SG.SET_MODE, each said once: the result when every write is granted, and the result when the
write number `k` is the first that is not (41_step_generator.md R132, R135, R136). -/

namespace Sys2Proof.Machine

open Sys2Proof

/-! ### SG.ROTATE -/

/-- The line writes of a whole SG.ROTATE that finds the driver enabled or not (R135). -/
def rotateWrites (enabled d : Bool) (n : Nat) : List (OutPin × Bool) :=
  (.dir, d) :: (if enabled then pulseWrites n else (.enN, false) :: (pulseWrites n ++ [(.enN, true)]))

@[simp] theorem rotateWrites_events (enabled d : Bool) (n : Nat) :
    (rotateWrites enabled d n).map eventOf = rotateEvents enabled d n := by
  cases enabled <;> simp [rotateWrites, rotateEvents, eventOf]

@[simp] theorem rotateWrites_length (enabled d : Bool) (n : Nat) :
    (rotateWrites enabled d n).length = rotateAccesses enabled n := by
  cases enabled <;> simp [rotateWrites, rotateAccesses]

theorem rotateWrites_lines (enabled d : Bool) (n : Nat) :
    ∀ w ∈ rotateWrites enabled d n, w.1 = .step ∨ w.1 = .dir ∨ w.1 = .enN := by
  intro w hw
  cases enabled <;>
    simp only [rotateWrites, Bool.false_eq_true, if_false, if_true, List.mem_cons, List.mem_append, List.not_mem_nil,
      or_false] at hw
  · rcases hw with rfl | rfl | hw | rfl
    · simp
    · simp
    · exact pulseWrites_step n w hw
    · simp
  · rcases hw with rfl | hw
    · simp
    · exact pulseWrites_step n w hw

/-- The enable flag plays no part in a line write. -/
theorem State.written_setSgEn (s : State) (b : Bool) (ws : List (OutPin × Bool)) :
    (s.setSgEn b).written ws = (s.written ws).setSgEn b := by
  induction ws generalizing s with
  | nil => rfl
  | cons w ws ih =>
    obtain ⟨p, v⟩ := w
    have e : ((s.setSgEn b).pass.setLatch p v).record (.pin p v) = ((s.pass.setLatch p v).record (.pin p v)).setSgEn b := by
      cases p <;> rfl
    simp only [State.written]
    rw [e, ih]

theorem State.setSgEn_of {s : State} {b : Bool} (h : s.sgEn = b) : s.setSgEn b = s := by subst h; rfl

/-- SG.ROTATE whose first failing write is number `k`: the writes before it stand, the flag has been set if the driver was
enabled by then, and the fault names the line that failed (R136). -/
theorem sgRotate_failed {s : State} {d : Bool} {steps : Word} {k : Nat} {w : OutPin × Bool} (hk : s.grants k)
    (hf : (s.passes k).granted = false) (hw : (rotateWrites s.sgEn d steps.toNat)[k]? = some w) :
    sgRotate d steps s = raise (.io (OutPin.role w.1))
      ((s.written ((rotateWrites s.sgEn d steps.toNat).take k)).pass.setSgEn (s.sgEn || decide (2 ≤ k))) := by
  cases he : s.sgEn with
  | true =>
    rw [he] at hw
    have e : rotateWrites true d steps.toNat = (OutPin.dir, d) :: pulseWrites steps.toNat := rfl
    rw [sgRotate_enabled d steps he, ← e, writeAll_failed hw hk hf, State.setSgEn_of (by simp [he])]
  | false =>
    rw [he] at hw
    have e : rotateWrites false d steps.toNat =
        [((.dir : OutPin), d), (.enN, false)] ++ (pulseWrites steps.toNat ++ [((.enN : OutPin), true)]) := rfl
    rw [sgRotate_disabled d steps he]
    by_cases h2 : 2 ≤ k
    · obtain ⟨j, rfl⟩ := Nat.exists_eq_add_of_le h2
      obtain ⟨h1, h3⟩ := (s.grants_add 2 j).1 hk
      rw [writeAll_granted (ws := [((.dir : OutPin), d), (.enN, false)]) h1, Run.ret_bind]
      have w1 : SameWorld (s.passes 2) ((s.written [(.dir, d), (.enN, false)]).setSgEn true) :=
        (sameWorld_written s [(.dir, d), (.enN, false)]).trans ⟨rfl, rfl, rfl, rfl⟩
      rw [State.passes_add, (w1.passes j).granted] at hf
      rw [e, List.getElem?_append_right (by simp),
        show 2 + j - [((.dir : OutPin), d), (.enN, false)].length = j by simp] at hw
      rw [writeAll_failed hw (w1.grants h3) hf, raise_bind]
      have t : List.take (2 + j) (rotateWrites false d steps.toNat) =
          [((.dir : OutPin), d), (.enN, false)] ++ (pulseWrites steps.toNat ++ [((.enN : OutPin), true)]).take j := by
        rw [e, List.take_append, List.take_of_length_le (by simp)]; simp
      rw [t, State.written_append, State.written_setSgEn]
      simp only [h2, decide_true, Bool.or_true]
      rfl
    · have hw' : [((.dir : OutPin), d), (.enN, false)][k]? = some w := by
        rw [e, List.getElem?_append_left (by simp; omega)] at hw; exact hw
      have t : List.take k (rotateWrites false d steps.toNat) = [((.dir : OutPin), d), (.enN, false)].take k := by
        rw [e, List.take_append_of_le_length (by simp; omega)]
      rw [writeAll_failed hw' hk hf, raise_bind, t, State.setSgEn_of (by simp [he]; omega)]

/-- What SG.ROTATE can do: the whole of it, or a fault at its first failing write. -/
theorem sgRotate_cases (d : Bool) (steps : Word) (s : State) :
    (s.grants (rotateAccesses s.sgEn steps.toNat) ∧ sgRotate d steps s = .ret () (s.rotated d steps.toNat)) ∨
    ∃ k w, k < rotateAccesses s.sgEn steps.toNat ∧ s.grants k ∧ (s.passes k).granted = false ∧
      (rotateWrites s.sgEn d steps.toNat)[k]? = some w ∧
      sgRotate d steps s = raise (.io (OutPin.role w.1))
        ((s.written ((rotateWrites s.sgEn d steps.toNat).take k)).pass.setSgEn (s.sgEn || decide (2 ≤ k))) := by
  rcases s.grants_or_fails (rotateAccesses s.sgEn steps.toNat) with h | ⟨k, hk, h1, h2⟩
  · exact .inl ⟨h, sgRotate_granted d steps h⟩
  · have hk' : k < (rotateWrites s.sgEn d steps.toNat).length := by simpa using hk
    exact .inr ⟨k, _, hk, h1, h2, List.getElem?_eq_getElem hk', sgRotate_failed h1 h2 (List.getElem?_eq_getElem hk')⟩

/-- After a whole SG.ROTATE the environment is where it is after as many accesses. -/
theorem sameWorld_rotated (s : State) (d : Bool) (n : Nat) :
    SameWorld (s.passes (rotateAccesses s.sgEn n)) (s.rotated d n) := by
  refine ⟨rfl, ?_, rfl, rfl⟩
  simp [State.rotated, State.armed]

/-! ### SG.SET_MODE -/

/-- The line writes of a whole SG.SET_MODE (R132). -/
def modeWrites (c : Cfg) (levels : BitVec 3) : List (OutPin × Bool) :=
  [(.ms1, levels.getLsbD 0), (.ms2, levels.getLsbD 1)] ++ (if c.nmode = 3#2 then [(.ms3, levels.getLsbD 2)] else [])

@[simp] theorem modeWrites_events (c : Cfg) (levels : BitVec 3) :
    (modeWrites c levels).map eventOf = modeEvents c levels := by
  unfold modeWrites modeEvents; split <;> rfl

@[simp] theorem modeWrites_length (c : Cfg) (levels : BitVec 3) : (modeWrites c levels).length = modeAccesses c := by
  unfold modeWrites modeAccesses; split <;> rfl

theorem modeWrites_role (c : Cfg) (levels : BitVec 3) : ∀ w ∈ modeWrites c levels, OutPin.role w.1 = .mode := by
  intro w hw
  unfold modeWrites at hw
  split at hw <;> simp at hw <;> rcases hw with rfl | rfl | rfl <;> rfl

/-- A line write leaves the configuration, and so does its failure. -/
theorem pinWrite_cfg (p : OutPin) (b : Bool) (s : State) : (pinWrite p b s).st.cfg = s.cfg := by
  unfold pinWrite
  split <;> simp

theorem sgSetMode_eq_writeAll (m : MicrostepMode) (s : State) :
    sgSetMode m s = writeAll (modeWrites s.cfg (modeLevels s.cfg m)) s := by
  have key : ∀ (p : OutPin) (b : Bool) (t : State) (f g : State → Run Unit), (∀ u, u.cfg = t.cfg → f u = g u) →
      ((pinWrite p b t).bind fun _ u => f u) = (pinWrite p b t).bind fun _ u => g u := by
    intro p b t f g h
    have hc := pinWrite_cfg p b t
    generalize pinWrite p b t = r at hc
    obtain ⟨st, val⟩ := r
    cases val with
    | none => rfl
    | some a => exact h st hc
  have last : ∀ (p : OutPin) (b : Bool) (t : State), writeAll [(p, b)] t = pinWrite p b t := by
    intro p b t
    simp only [writeAll]
    generalize pinWrite p b t = r
    obtain ⟨st, val⟩ := r
    cases val <;> rfl
  unfold sgSetMode
  by_cases h : s.cfg.nmode = 3#2
  · simp only [modeWrites, h, if_true, List.cons_append, List.nil_append, writeAll]
    refine key _ _ _ _ _ fun u hu => ?_
    rw [hu]
    refine key _ _ _ _ _ fun v hv => ?_
    rw [hv, hu, if_pos h]
    exact (last ..).symm
  · simp only [modeWrites, h, if_false, List.append_nil, writeAll]
    refine key _ _ _ _ _ fun u hu => ?_
    rw [hu]
    refine key _ _ _ _ _ fun v hv => ?_
    rw [hv, hu, if_neg h]

/-- Driving the mode lines one by one. -/
theorem drivenModes_succ : ∀ levels old : BitVec 3,
    drivenModes 0 levels old = old ∧ setModeBit old 0 (levels.getLsbD 0) = drivenModes 1 levels old ∧
    setModeBit (drivenModes 1 levels old) 1 (levels.getLsbD 1) = drivenModes 2 levels old ∧
    setModeBit (drivenModes 2 levels old) 2 (levels.getLsbD 2) = drivenModes 3 levels old := by
  decide

/-- After the first `k` mode writes (R132). -/
theorem State.written_modes (s : State) (levels : BitVec 3) (k : Nat) (hk : k ≤ modeAccesses s.cfg) :
    s.written ((modeWrites s.cfg levels).take k) = s.modeDriven levels k k := by
  have hl : ((modeWrites s.cfg levels).take k).length = k := by rw [List.length_take, modeWrites_length]; omega
  have hx := s.written_env ((modeWrites s.cfg levels).take k)
  have hi := s.written_ip ((modeWrites s.cfg levels).take k)
  have hlines := s.written_lines ((modeWrites s.cfg levels).take k)
  rw [List.map_take, modeWrites_events] at hlines
  rw [hl] at hx hi
  have e : ∀ l, ((modeEvents s.cfg levels).take k).foldl Lines.after l = l := by
    intro l
    unfold modeEvents
    split <;> rcases k with _ | _ | _ | _ | k <;> rfl
  rw [e] at hlines
  simp only [State.lines, Lines.mk.injEq] at hlines
  have hms : (s.written ((modeWrites s.cfg levels).take k)).oMs = drivenModes k levels s.oMs := by
    obtain ⟨d0, d1, d2, d3⟩ := drivenModes_succ levels s.oMs
    unfold modeWrites
    unfold modeAccesses at hk
    split at hk
    · have : k = 0 ∨ k = 1 ∨ k = 2 ∨ k = 3 := by omega
      rcases this with rfl | rfl | rfl | rfl
      · exact d0.symm
      · exact d1
      · rw [← d2, ← d1]; rfl
      · rw [if_pos (by assumption), ← d3, ← d2, ← d1]; rfl
    · have : k = 0 ∨ k = 1 ∨ k = 2 := by omega
      rcases this with rfl | rfl | rfl
      · exact d0.symm
      · exact d1
      · rw [← d2, ← d1]; rfl
  apply State.ext <;> simp [State.modeDriven, hx, hi, hlines, hms]

/-- A whole SG.SET_MODE (R132). -/
theorem sgSetMode_granted (m : MicrostepMode) {s : State} (h : s.grants (modeAccesses s.cfg)) :
    sgSetMode m s = .ret () (s.modeDriven (modeLevels s.cfg m) (modeAccesses s.cfg) (modeAccesses s.cfg)) := by
  rw [sgSetMode_eq_writeAll, writeAll_granted (by rwa [modeWrites_length]), ← s.written_modes _ _ (Nat.le_refl _),
    List.take_of_length_le (by rw [modeWrites_length])]

/-- SG.SET_MODE whose first failing write is number `k` (R132). -/
theorem sgSetMode_failed (m : MicrostepMode) {s : State} {k : Nat} (hk : k < modeAccesses s.cfg) (h : s.grants k)
    (hf : (s.passes k).granted = false) :
    sgSetMode m s = raise (.io .mode) (s.modeDriven (modeLevels s.cfg m) k (k + 1)) := by
  have hk' : k < (modeWrites s.cfg (modeLevels s.cfg m)).length := by rwa [modeWrites_length]
  rw [sgSetMode_eq_writeAll, writeAll_failed (List.getElem?_eq_getElem hk') h hf, s.written_modes _ _ (by omega),
    modeWrites_role _ _ _ (List.getElem_mem hk')]
  congr 1
  have w : SameWorld (s.passes k) (s.modeDriven (modeLevels s.cfg m) k k) :=
    ⟨rfl, by simp [State.modeDriven, State.armed], rfl, rfl⟩
  have e := w.pass
  have hp : s.passes (k + 1) = (s.passes k).pass := by rw [State.passes_add]; rfl
  apply State.ext <;> simp [State.modeDriven, hp, e.env, e.ip]

/-- What SG.SET_MODE can do: the whole of it, or a fault at its first failing write. -/
theorem sgSetMode_cases (m : MicrostepMode) (s : State) :
    (s.grants (modeAccesses s.cfg) ∧ sgSetMode m s =
      .ret () (s.modeDriven (modeLevels s.cfg m) (modeAccesses s.cfg) (modeAccesses s.cfg))) ∨
    ∃ k, k < modeAccesses s.cfg ∧ s.grants k ∧ (s.passes k).granted = false ∧
      sgSetMode m s = raise (.io .mode) (s.modeDriven (modeLevels s.cfg m) k (k + 1)) := by
  rcases s.grants_or_fails (modeAccesses s.cfg) with h | ⟨k, hk, h1, h2⟩
  · exact .inl ⟨h, sgSetMode_granted m h⟩
  · exact .inr ⟨k, hk, h1, h2, sgSetMode_failed m hk h1 h2⟩

end Sys2Proof.Machine
end

