-- ==== Sys2Proof/Laws/Bodies.lean ====
section
/-! SUPPORT. What every body and every operation keeps: a predicate that the accesses keep, and the register writes the
body makes keep, holds after the body (42_height_controller.md, 43_system_ops.md). -/

namespace Sys2Proof.Machine

open Sys2Proof

variable {P : State → Prop} {s t : State}

/-- The register writes of the bodies keep the predicate. -/
structure DataStable (P : State → Prop) : Prop where
  tgt : ∀ s v, P s → P (s.setTgt v)
  cur : ∀ s v, P s → P (s.setCur v)
  cd : ∀ s v, P s → P (s.setCd v)
  cdV : ∀ s v, P s → P (s.setCdV v)
  qdPend : ∀ s r, P s → P (s.latchRotation r)
  reply : ∀ s r, P s → P (s.setReply r)

theorem AccessStable.qdUpdate (hP : AccessStable P) (hq : ∀ s r, P s → P (s.latchRotation r)) (h : P s) :
    P (qdUpdate s).st := by
  unfold Machine.qdUpdate
  split
  · refine Run.bind_keeps (hP.pinRead _ h) fun a t ht => ?_
    split
    · exact Run.bind_keeps (hP.pinRead _ ht) fun _ _ h => h
    · exact ht
  · refine Run.bind_keeps (hP.pinRead _ h) fun a t ht => ?_
    split
    · exact Run.bind_keeps (hP.pinRead _ ht) fun _ _ h => hq _ _ h
    · exact hq _ _ ht

theorem AccessStable.cooldownTest (hP : AccessStable P) (hc : ∀ s v, P s → P (s.setCd v))
    (hv : ∀ s v, P s → P (s.setCdV v)) (h : P s) : P (cooldownTest s).st := by
  unfold Machine.cooldownTest
  split
  · split
    · exact hc _ _ h
    · exact h
  · split
    · refine Run.bind_keeps (hP.clockRead h) fun a t ht => ?_
      split
      · exact hv _ _ ht
      · exact ht
    · exact h

theorem AccessStable.tickHoming (hP : AccessStable P) (hu : ∀ s v, P s → P (s.setCur v)) (h : P s) :
    P (tickHoming s).st := by
  refine Run.bind_keeps (hP.sgRotate _ _ h) fun _ t ht => Run.bind_keeps (hP.pinRead _ ht) fun _ t ht => ?_
  split
  · exact hP.dispUpdate _ (hu _ _ ht)
  · exact ht

theorem AccessStable.tickMove (hP : AccessStable P) (hu : ∀ s v, P s → P (s.setCur v)) (c : Word) (h : P s) :
    P (tickMove c s).st := by
  unfold Machine.tickMove
  split <;> exact Run.bind_keeps (hP.sgRotate _ _ h) fun _ t ht => hu _ _ ht

theorem AccessStable.tickBody (hP : AccessStable P) (hc : ∀ s v, P s → P (s.setCd v))
    (hv : ∀ s v, P s → P (s.setCdV v)) (hu : ∀ s v, P s → P (s.setCur v)) (h : P s) : P (tickBody s).st := by
  refine Run.bind_keeps (hP.cooldownTest hc hv h) fun b t ht => ?_
  split
  · exact hP.tickHoming hu ht
  · split
    · exact hP.tickMove hu _ ht
    · exact ht

theorem AccessStable.openCooldown (hP : AccessStable P) (hc : ∀ s v, P s → P (s.setCd v))
    (hv : ∀ s v, P s → P (s.setCdV v)) (h : P s) : P (openCooldown s).st := by
  unfold Machine.openCooldown
  split
  · exact hc _ _ h
  · exact Run.bind_keeps (hP.clockRead h) fun _ _ h => hv _ _ (hc _ _ h)

theorem AccessStable.turn (hP : AccessStable P) (hc : ∀ s v, P s → P (s.setCd v)) (hv : ∀ s v, P s → P (s.setCdV v))
    (r : Rotation) (h : P (s.setTgt (turnedTarget r s))) : P (turn r s).st := by
  refine Run.bind_keeps (hP.openCooldown hc hv h) fun b t ht => ?_
  split
  · exact hP.dispUpdate _ ht
  · exact ht

theorem AccessStable.encEdgeBody (hP : AccessStable P) (hq : ∀ s r, P s → P (s.latchRotation r))
    (hc : ∀ s v, P s → P (s.setCd v)) (hv : ∀ s v, P s → P (s.setCdV v))
    (ht : ∀ s r, P s → P (s.setTgt (turnedTarget r s))) (h : P s) : P (encEdgeBody s).st := by
  refine Run.bind_keeps (hP.qdUpdate hq h) fun b t k => ?_
  split
  · exact k
  · exact hP.turn hc hv _ (ht _ _ k)
  · exact hP.turn hc hv _ (ht _ _ k)

theorem AccessStable.homeEdgeBody (hP : AccessStable P) (hu : ∀ s, P s → P (s.setCur none)) (h : P s) :
    P (homeEdgeBody s).st :=
  hP.dispUpdate _ (hu _ h)

theorem AccessStable.limitMove (hP : AccessStable P) (h : P s) : P (limitMove s).st := by
  unfold Machine.limitMove
  split
  · exact hP.sgRotate _ _ h
  · exact h

theorem AccessStable.limitEdgeBody (hP : AccessStable P) (ha : ∀ s, P s → P s.atLimit) (h : P s) :
    P (limitEdgeBody s).st :=
  Run.bind_keeps (hP.limitMove h) fun _ _ ht => hP.dispUpdate _ (ha _ ht)

theorem AccessStable.constructBody (hP : AccessStable P) (hi : ∀ s, P s → P s.initRegisters)
    (ho : ∀ s, P s → P s.openForeground) (h : P s) : P (constructBody s).st := by
  unfold Machine.constructBody
  split
  · exact hP.fault _ _ h
  · exact hP.fault _ _ h
  · exact Run.bind_keeps (hP.sgSetMode _ (hi _ h)) fun _ t ht =>
      Run.bind_keeps (hP.dispUpdate _ ht) fun _ _ h => ho _ h

/-- Every operation but CS.ENTER, CS.EXIT and CONSTRUCT keeps what the accesses and the register writes keep. -/
theorem exec_keeps (hP : AccessStable P) (hD : DataStable P) {i : Instr}
    (hi : i ≠ .csEnter ∧ i ≠ .csExit ∧ i ≠ .construct) (h : P s) (he : exec i s = .next t) : P t := by
  obtain ⟨h1, h2, h3⟩ := hi
  cases i <;> first | contradiction | simp only [exec] at he
  · obtain ⟨_, rfl⟩ := runIf_next.1 he
    exact hP.tickBody hD.cd hD.cdV hD.cur h
  · obtain ⟨_, rfl⟩ := runIf_next.1 he
    exact hP.encEdgeBody hD.qdPend hD.cd hD.cdV (fun s _ => hD.tgt s _) h
  · obtain ⟨_, rfl⟩ := runIf_next.1 he
    exact hP.homeEdgeBody (fun s => hD.cur s _) h
  · unfold execLimitEdge at he
    split at he
    · obtain ⟨_, rfl⟩ := runIf_next.1 he
      exact hP.limitEdgeBody (fun s h => hD.tgt _ _ (hD.cur s _ h)) h
    · cases he
  · obtain ⟨_, rfl⟩ := runIf_next.1 he
    exact Run.bind_keeps (hP.qdUpdate hD.qdPend h) fun _ _ h => hD.reply _ _ h
  · obtain ⟨_, rfl⟩ := runIf_next.1 he
    exact hP.sgDisable h
  · obtain ⟨_, rfl⟩ := runIf_next.1 he
    exact hP.sgEnable h
  · obtain ⟨_, rfl⟩ := runIf_next.1 he
    exact hP.sgRotate _ _ h
  · unfold execSgSetMode at he
    split at he
    · obtain ⟨_, rfl⟩ := runIf_next.1 he
      exact hP.sgSetMode _ h
    · cases he
  · obtain ⟨_, rfl⟩ := runIf_next.1 he
    exact hP.dispUpdate _ h
  · obtain ⟨_, rfl⟩ := runIf_next.1 he
    exact hP.dispUpdate _ h
  · unfold execDispHeight at he
    split at he
    · obtain ⟨_, rfl⟩ := runIf_next.1 he
      exact hP.dispUpdate _ h
    · cases he

/-- Writing `qd_pend` writes it or, under ImmediateLevel, nothing (R24). -/
theorem State.latchRotation_cases (s : State) (r : Rotation) :
    s.latchRotation r = s.setQdPend r ∨ s.latchRotation r = s := by
  unfold latchRotation
  split <;> simp

end Sys2Proof.Machine
end

