-- ==== Sys2Proof/Laws/PerInstr.lean ====
section
/-! SUPPORT. Facts about each operation as syntax, one lemma a constructor (30_encoding.md R91): the length of a request
is known from its first byte. -/

namespace Sys2Proof.Laws.RequestLength

open Sys2Proof

/-- A request has the length that its first byte says (R91). -/
def Statement (i : Instr) : Prop :=
  ∃ op tail, encode i = op :: tail ∧ (op :: tail).length = requestLength op

theorem tick : Statement .tick := ⟨_, _, rfl, rfl⟩
theorem encEdge : Statement .encEdge := ⟨_, _, rfl, rfl⟩
theorem homeEdge : Statement .homeEdge := ⟨_, _, rfl, rfl⟩
theorem limitEdge : Statement .limitEdge := ⟨_, _, rfl, rfl⟩
theorem qdUpdate : Statement .qdUpdate := ⟨_, _, rfl, rfl⟩
theorem sgDisable : Statement .sgDisable := ⟨_, _, rfl, rfl⟩
theorem sgEnable : Statement .sgEnable := ⟨_, _, rfl, rfl⟩
theorem sgRotate (d : Bool) (steps : Word) : Statement (.sgRotate d steps) := by
  cases d <;> exact ⟨_, _, rfl, rfl⟩
theorem sgSetMode (m : BitVec 3) : Statement (.sgSetMode m) :=
  ⟨_, _, rfl, by revert m; decide⟩
theorem dispWelcome : Statement .dispWelcome := ⟨_, _, rfl, rfl⟩
theorem dispCalibrating : Statement .dispCalibrating := ⟨_, _, rfl, rfl⟩
theorem dispHeight (mm : Word) : Statement (.dispHeight mm) := ⟨_, _, rfl, rfl⟩
theorem csEnter : Statement .csEnter := ⟨_, _, rfl, rfl⟩
theorem csExit : Statement .csExit := ⟨_, _, rfl, rfl⟩
theorem construct : Statement .construct := ⟨_, _, rfl, rfl⟩

end Sys2Proof.Laws.RequestLength
end

