-- ==== Sys2Proof/Laws/Step.lean ====
section
/-! SUPPORT. What a step does around the operation it runs, said once: the end of every step, the entries and returns that
go with CS.ENTER and CS.EXIT, and what a step that answers a next state has done (30_encoding.md R104, 60_exceptions.md
R203, R212 to R217). -/

namespace Sys2Proof.Machine

open Sys2Proof

/-! ### The end of a step (R73, R203) -/

/-- Outside HALTED the end of a step is the environment's alone. -/
theorem State.settled_of_running {t : State} (h : t.ctx ≠ .halted) : t.settled = t.pass := by
  simp [settled, h]

/-- In HALTED nothing is presented any more. -/
theorem State.settled_of_halted {t : State} (h : t.ctx = .halted) : t.settled = (t.setPort []).pass := by
  simp [settled, h]

/-- A register that neither the environment nor the port touches is at the end of a step what it was. -/
theorem State.settled_keeps {β : Type} (g : State → β) (hp : ∀ s, g s.pass = g s) (hq : ∀ s l, g (s.setPort l) = g s)
    (t : State) : g t.settled = g t := by
  unfold settled
  split
  · rw [hp, hq]
  · exact hp t

@[simp] theorem State.settled_tgt (t : State) : t.settled.tgt = t.tgt :=
  settled_keeps State.tgt (fun _ => rfl) (fun _ _ => rfl) t

@[simp] theorem State.settled_cur (t : State) : t.settled.cur = t.cur :=
  settled_keeps State.cur (fun _ => rfl) (fun _ _ => rfl) t

@[simp] theorem State.settled_cd (t : State) : t.settled.cd = t.cd :=
  settled_keeps State.cd (fun _ => rfl) (fun _ _ => rfl) t

@[simp] theorem State.settled_cdV (t : State) : t.settled.cdV = t.cdV :=
  settled_keeps State.cdV (fun _ => rfl) (fun _ _ => rfl) t

@[simp] theorem State.settled_qdPend (t : State) : t.settled.qdPend = t.qdPend :=
  settled_keeps State.qdPend (fun _ => rfl) (fun _ _ => rfl) t

@[simp] theorem State.settled_sgEn (t : State) : t.settled.sgEn = t.sgEn :=
  settled_keeps State.sgEn (fun _ => rfl) (fun _ _ => rfl) t

@[simp] theorem State.settled_masked (t : State) : t.settled.masked = t.masked :=
  settled_keeps State.masked (fun _ => rfl) (fun _ _ => rfl) t

@[simp] theorem State.settled_ctx (t : State) : t.settled.ctx = t.ctx :=
  settled_keeps State.ctx (fun _ => rfl) (fun _ _ => rfl) t

@[simp] theorem State.settled_fault (t : State) : t.settled.fault = t.fault :=
  settled_keeps State.fault (fun _ => rfl) (fun _ _ => rfl) t

@[simp] theorem State.settled_cfg (t : State) : t.settled.cfg = t.cfg :=
  settled_keeps State.cfg (fun _ => rfl) (fun _ _ => rfl) t

@[simp] theorem State.settled_maxh (t : State) : t.settled.maxh = t.maxh :=
  settled_keeps State.maxh (fun _ => rfl) (fun _ _ => rfl) t

@[simp] theorem State.settled_oStep (t : State) : t.settled.oStep = t.oStep :=
  settled_keeps State.oStep (fun _ => rfl) (fun _ _ => rfl) t

@[simp] theorem State.settled_oDir (t : State) : t.settled.oDir = t.oDir :=
  settled_keeps State.oDir (fun _ => rfl) (fun _ _ => rfl) t

@[simp] theorem State.settled_oEnN (t : State) : t.settled.oEnN = t.oEnN :=
  settled_keeps State.oEnN (fun _ => rfl) (fun _ _ => rfl) t

@[simp] theorem State.settled_oMs (t : State) : t.settled.oMs = t.oMs :=
  settled_keeps State.oMs (fun _ => rfl) (fun _ _ => rfl) t

@[simp] theorem State.settled_disp (t : State) : t.settled.disp = t.disp :=
  settled_keeps State.disp (fun _ => rfl) (fun _ _ => rfl) t

@[simp] theorem State.settled_hist (t : State) : t.settled.hist = t.hist :=
  settled_keeps State.hist (fun _ => rfl) (fun _ _ => rfl) t

@[simp] theorem State.settled_reply (t : State) : t.settled.reply = t.reply :=
  settled_keeps State.reply (fun _ => rfl) (fun _ _ => rfl) t

/-- After the end of a step the port of a halted block is empty, any other block's port what it was. -/
theorem State.settled_port (t : State) : t.settled.port = if t.ctx = .halted then [] else t.port := by
  unfold settled
  split <;> rfl

/-! ### What goes with CS.ENTER and CS.EXIT (R104) -/

/-- CS.ENTER goes with nothing, or from FG_OPEN with the entry of a pending source or, with none pending, of a tick. -/
theorem State.afterEnter_cases (t : State) :
    t.afterEnter = t ∨ t.ctx = .fgOpen ∧
      ((t.pendingBits = 0#3 ∧ t.afterEnter = t.beginTick) ∨ ∃ n, t.isPending n = true ∧ t.afterEnter = t.enterHandler n) := by
  unfold afterEnter
  split
  · rename_i hx
    split
    · exact .inl rfl
    · split
      · split
        · rename_i h; exact .inr ⟨hx, .inl ⟨h, rfl⟩⟩
        · exact .inl rfl
      · split
        · split
          · rename_i h; exact .inr ⟨hx, .inr ⟨_, h, rfl⟩⟩
          · exact .inl rfl
        · exact .inl rfl
  · exact .inl rfl

/-- CS.EXIT goes with the return or the end of tick in a body's context, and with nothing elsewhere. -/
theorem State.afterExit_cases (t : State) :
    (t.ctx.isBody = true ∧ t.afterExit = t.leaveBody) ∨ (t.ctx.isBody = false ∧ t.afterExit = t) := by
  unfold afterExit
  cases h : t.ctx.isBody <;> simp

/-- Nothing goes with any other operation (R28). -/
theorem State.accompany_other {i : Instr} (h1 : i ≠ .csEnter) (h2 : i ≠ .csExit) (t : State) : t.accompany i = t := by
  cases i <;> first | rfl | contradiction

/-! ### The step -/

/-- With a request on the port, no matter the context, the step serves it. -/
theorem step_of_port {s : State} (h : s.port ≠ []) : step s = serve s := by
  have hp : s.presented = s := by
    unfold State.presented
    split
    · contradiction
    · rfl
  simp [step, h, hp]

/-- The step serves the operation that is read from what is presented. -/
theorem step_of_decode {s : State} {i : Instr} {rest : List Byte} (hx : s.ctx ≠ .halted ∨ s.port ≠ [])
    (hd : decode s.presented.port = .op i rest) : step s = accompanied i (exec i (s.presented.setPort rest)) := by
  have h : ¬(s.ctx = .halted ∧ s.port = []) := fun h => hx.elim (· h.1) (· h.2)
  simp only [step, if_neg h, serve, hd]

/-- What a step that answers a next state has done: it has read an operation from what was presented, run it with the
port moved past it, and added what the sequencer adds and what the environment does. -/
theorem step_next {s t : State} (h : step s = .next t) :
    ∃ i rest u, decode s.presented.port = .op i rest ∧ exec i (s.presented.setPort rest) = .next u ∧
      t = (u.accompany i).settled := by
  unfold step at h
  split at h
  · cases h
  · unfold serve at h
    split at h <;> try cases h
    rename_i i rest hd
    cases he : exec i (s.presented.setPort rest) with
    | next u =>
      rw [he] at h
      exact ⟨i, rest, u, hd, he, (Host.Outcome.next.inj h).symm⟩
    | fault r => rw [he] at h; cases h
    | refused r => rw [he] at h; cases h

end Sys2Proof.Machine
end

