-- ==== Sys2Proof/Tests/Slice0.lean ====
section
/-! SUPPORT. The model's own tests: what WellFormed refuses, the decoding of words written out from 30_encoding.md R97,
single steps with the results of 95_test_vectors.md (the vector's name stands in each docstring), and for every
statement with hypotheses a concrete state and operands that meet them. -/

namespace Sys2Proof.Tests

open Sys2Proof Sys2Proof.Machine

/-! ### WellFormed: an ill-formed term for its one check (R94) -/

theorem test_wellFormed_refuses_mode5 : Instr.wellFormed (.sgSetMode 5#3) = false := by decide
theorem test_wellFormed_refuses_mode7 : Instr.wellFormed (.sgSetMode 7#3) = false := by decide
theorem test_wellFormed_accepts_mode4 : Instr.wellFormed (.sgSetMode 4#3) = true := by decide

/-! ### Decoding, one request written out for each constructor (vectors 2.1) -/

theorem test_decode_tick : decode [0b00000000#8] = .op .tick [] := by decide
theorem test_decode_encEdge : decode [0b00000001#8] = .op .encEdge [] := by decide
theorem test_decode_homeEdge : decode [0b00000010#8] = .op .homeEdge [] := by decide
theorem test_decode_limitEdge : decode [0b00000011#8] = .op .limitEdge [] := by decide
theorem test_decode_qdUpdate : decode [0b00010000#8] = .op .qdUpdate [] := by decide
theorem test_decode_sgDisable : decode [0b00100000#8] = .op .sgDisable [] := by decide
theorem test_decode_sgEnable : decode [0b00100001#8] = .op .sgEnable [] := by decide
theorem test_decode_rotate0 :
    decode [0b00100010#8, 0x05#8, 0x00#8, 0x00#8, 0x00#8] = .op (.sgRotate false 5#32) [] := by decide
theorem test_decode_rotate1 :
    decode [0b00100011#8, 0x2C#8, 0x01#8, 0x00#8, 0x00#8] = .op (.sgRotate true 300#32) [] := by decide
theorem test_decode_rotate_bytes :
    decode [0x23#8, 0x04#8, 0x03#8, 0x02#8, 0x01#8] = .op (.sgRotate true 0x01020304#32) [] := by decide
theorem test_decode_mode0 : decode [0b00101000#8] = .op (.sgSetMode 0#3) [] := by decide
theorem test_decode_mode4 : decode [0b00101100#8] = .op (.sgSetMode 4#3) [] := by decide
theorem test_decode_welcome : decode [0b00110000#8] = .op .dispWelcome [] := by decide
theorem test_decode_calibrating : decode [0b00110001#8] = .op .dispCalibrating [] := by decide
theorem test_decode_height :
    decode [0b00110010#8, 0x2D#8, 0x00#8, 0x00#8, 0x00#8] = .op (.dispHeight 45#32) [] := by decide
theorem test_decode_csEnter : decode [0b01000000#8] = .op .csEnter [] := by decide
theorem test_decode_csExit : decode [0b01000001#8] = .op .csExit [] := by decide
theorem test_decode_construct : decode [0b01000010#8] = .op .construct [] := by decide
theorem test_decode_handle : decode [0x40#8, 0x03#8, 0x41#8] = .op .csEnter [0x03#8, 0x41#8] := by decide
theorem test_decode_reserved_modes :
    [0x2D#8, 0x2E#8, 0x2F#8].map (fun b => decode [b]) = [.reserved 0x2D#8, .reserved 0x2E#8, .reserved 0x2F#8] := by
  decide
theorem test_decode_reserved_all :
    [0x04#8, 0x0F#8, 0x11#8, 0x1F#8, 0x24#8, 0x27#8, 0x33#8, 0x3F#8, 0x43#8, 0x50#8, 0xFF#8].all
      (fun b => decode [b] == .reserved b) = true := by
  decide
theorem test_decode_incomplete : decode [0x22#8, 0x05#8, 0x00#8] = .incomplete 0x22#8 := by decide
theorem test_decode_idle : decode [] = .idle := by decide
theorem test_tableWord_rotate : decodeTableWord 8 0x23 = some (.sgRotate true 0#32) := by decide
theorem test_tableWord_mode : decodeTableWord 8 0x2A = some (.sgSetMode 2#3) := by decide
theorem test_tableWord_reserved : decodeTableWord 8 0x2D = none := by decide

/-! ### Codes (vectors 2.1) -/

theorem test_fault_codes :
    [BlockFault.io .step, .io .dir, .io .enable, .io .mode, .io .encoderA, .io .encoderB, .io .home, .io .limit,
      .display .formatting, .display .write, .config 1#5, .config 9#5].map BlockFault.latch =
    [0xA0#8, 0xA1#8, 0xA2#8, 0xA3#8, 0xA4#8, 0xA5#8, 0xA6#8, 0xA7#8, 0xC0#8, 0xC1#8, 0xE1#8, 0xE9#8] := by
  decide
theorem test_fault_fields : (State.reset.haltedWith 0xA5#8).faultClass = 1#2 ∧
    (State.reset.haltedWith 0xA5#8).faultTag = 5#5 ∧ (State.reset.haltedWith 0xA5#8).faultValid = true := by decide
theorem test_ctx_codes : [Ctx.reset, .fgOpen, .fgTick, .hEnc, .hHome, .hLimit, .halted].map Ctx.code =
    [0#3, 1#3, 2#3, 3#3, 4#3, 5#3, 7#3] := by decide
theorem test_rotation_codes : [Rotation.none, .cw, .ccw].map Rotation.code = [0#2, 1#2, 2#2] := by decide

/-! ### Arithmetic (vectors 2.4) -/

/-- VA1 to VA5, VA19. -/
theorem test_incTgt : [0#32, 8900#32, 8800#32, 9000#32, 8801#32].map (incTgt 9000#32 200#32) =
    [200#32, 9000#32, 9000#32, 9000#32, 9000#32] ∧ incTgt 0#32 500#32 0#32 = 0#32 := by decide
/-- VA20. -/
theorem test_incTgt_wide : incTgt 4294967292#32 43383508#32 4251583784#32 = 4294967292#32 := by decide
/-- VA6 to VA9. -/
theorem test_decTgt : [150#32, 200#32, 0#32, 201#32].map (decTgt 200#32) = [0#32, 0#32, 0#32, 1#32] := by decide
/-- VA10 to VA14. -/
theorem test_mmOf : [600#32, 8999#32, 9000#32, 199#32, 0#32].map (mmOf 200#32) = [3#32, 44#32, 45#32, 0#32, 0#32] := by
  decide
/-- VA15 to VA18. -/
theorem test_stepCount : stepCount 4#32 10#32 3#32 = 4#32 ∧ stepCount 4#32 6#32 3#32 = 3#32 ∧
    stepCount 4#32 3#32 10#32 = 4#32 ∧ stepCount 1#32 0#32 9000#32 = 1#32 := by decide

/-! ### A bench: a state with a known environment -/

/-- An instant at which nothing happens and a request is granted. -/
def calm : Instant := { moves := [], advance := 0#32, answer := .ok, choice := 0 }

/-- An instant at which an I/O request fails; a display request fails in its formatting. -/
def failing : Instant := { calm with answer := .fails .formatting }

/-- An instant before which a pin takes a level. -/
def moving (p : InPin) (b : Bool) : Instant := { calm with moves := [{ pin := p, level := b }] }

/-- A block in a context, under the mask, with all inputs low and the coming instants given. -/
def bench (x : Ctx) (c : Cfg) (l : List Instant) : State :=
  { State.resetWith c with
    ctx := x, maxh := 9000#32
    env := { levels := { a := false, b := false, home := false, limit := false }, now := 0#32, script := l, drawn := 0 } }

/-- CFG-A of the test vectors. -/
abbrev cfgA : Cfg := Cfg.reference

/-- CFG-A with I/O requests that never fail. -/
abbrev cfgSure : Cfg := { Cfg.reference with ioFaults := false }

/-- A Tracking state in a context, with `cur` and `tgt`. -/
def tracking (x : Ctx) (c : Cfg) (l : List Instant) (h t : Word) : State :=
  { bench x c l with cur := some h, tgt := t }

/-- The next state of an outcome, if it is one. -/
def nextOf : Host.Outcome State Fault Refusal → Option State
  | .next s => some s
  | .fault _ => none
  | .refused _ => none

/-- The refusal of an outcome, if it is one. -/
def refusalOf : Host.Outcome State Fault Refusal → Option Refusal
  | .next _ => none
  | .fault _ => none
  | .refused r => some r

/-- A run of `n` calm instants. -/
def calms (n : Nat) : List Instant := List.replicate n calm

/-! ### One step of each operation -/

/-- VH6. -/
theorem test_tick_moves : (nextOf (exec .tick (tracking .fgTick cfgA (calms 5) 5#32 9#32))).map
      (fun t => (t.cur, t.hist)) =
    some (some 6#32, [.pin .dir true, .pin .enN false, .pin .step true, .pin .step false, .pin .enN true]) := by decide
/-- VH2, VH19: the sensor comes on during the train; the read of HOME fails after it. -/
theorem test_tick_homes : (nextOf (exec .tick { bench .fgTick cfgA (calms 5 ++ [moving .home true, calm]) with
      tgt := 600#32 })).map (fun t => (t.cur, t.disp, t.ip)) = some (some 0#32, .frame (.height 3#32), 0b010#3) ∧
    (nextOf (exec .tick (bench .fgTick cfgA (calms 5 ++ [failing])))).map
      (fun t => (t.fault, t.ctx, t.cur, t.hist.length)) = some (0xA6#8, .halted, none, 5) := by decide
/-- VH9. -/
theorem test_encEdge_cw : (nextOf (exec .encEdge
      (tracking .hEnc cfgA [moving .encA true, moving .encB true, calm] 0#32 0#32))).map (fun t => (t.tgt, t.disp)) =
    some (200#32, .frame (.height 1#32)) := by decide
/-- V-C3: a clamped click opens the window and shows nothing. VQ17, in ENC_EDGE: the read of ENC_B fails. -/
theorem test_encEdge_clamped : (nextOf (exec .encEdge
      (tracking .hEnc { cfgA with cooldown := 3#32 } [moving .encA true, moving .encB true] 0#32 9000#32))).map
        (fun t => (t.tgt, t.cd, t.hist)) =
    some (9000#32, 3#32, []) ∧
    (nextOf (exec .encEdge (bench .hEnc cfgA [moving .encA true, failing]))).map (fun t => (t.fault, t.ctx, t.tgt)) =
      some (0xA5#8, .halted, 0#32) := by decide
/-- S7. -/
theorem test_homeEdge : (nextOf (exec .homeEdge (tracking .hHome cfgA (calms 1) 77#32 9#32))).map
      (fun t => (t.cur, t.tgt, t.disp)) = some (none, 9#32, .frame .calibrating) := by decide
/-- P4 with an offset of 2: away from home, then the offset is the height and the target. -/
theorem test_limitEdge : (nextOf (exec .limitEdge
      (tracking .hLimit { cfgA with hasLimit := true, limitOfs := 2#32 } (calms 8) 1200#32 400#32))).map
        (fun t => (t.cur, t.tgt, t.oDir, t.hist.length)) = some (some 2#32, 2#32, true, 8) := by decide
theorem test_limitEdge_without_sensor :
    refusalOf (exec .limitEdge (bench .hLimit cfgA [])) = some .noLimitSensor := by decide
/-- VQ2. -/
theorem test_qdUpdate_immediate : (nextOf (exec .qdUpdate (bench .hEnc cfgA [moving .encA true, calm]))).map
      (fun t => t.reply) = some (some .ccw) := by decide
/-- VQ12: a start overwrites a stale latch. -/
theorem test_qdUpdate_latched : (nextOf (exec .qdUpdate
      { bench .hEnc { cfgA with qdPolicy := .edgeLatched } [moving .encA true, calm] with qdPend := .cw })).map
        (fun t => (t.reply, t.qdPend)) = some (some .none, .ccw) := by decide
/-- VG9. -/
theorem test_sgDisable : (nextOf (exec .sgDisable { bench .fgTick cfgA (calms 1) with sgEn := true, oEnN := false })).map
      (fun t => (t.sgEn, t.oEnN, t.hist)) = some (false, true, [.pin .enN true]) := by decide
/-- VG7. -/
theorem test_sgEnable : (nextOf (exec .sgEnable (bench .fgTick cfgA (calms 1)))).map
      (fun t => (t.sgEn, t.oEnN, t.hist)) = some (true, false, [.pin .enN false]) := by decide
/-- VG10. -/
theorem test_sgRotate : (nextOf (exec (.sgRotate true 2#32) (bench .fgTick cfgA (calms 7)))).map
      (fun t => (t.hist, t.oEnN, t.sgEn)) =
    some ([.pin .dir true, .pin .enN false, .pin .step true, .pin .step false, .pin .step true, .pin .step false,
      .pin .enN true], true, false) := by decide
/-- VG18. -/
theorem test_sgRotate_fails : (nextOf (exec (.sgRotate true 2#32) (bench .fgTick cfgA (calms 3 ++ [failing])))).map
      (fun t => (t.fault, t.ctx, t.oStep, t.oEnN, t.sgEn)) = some (0xA0#8, .halted, true, false, true) := by decide
/-- VG4. -/
theorem test_sgSetMode : (nextOf (exec (.sgSetMode 3#3) (bench .fgTick cfgA (calms 3)))).map
      (fun t => (t.oMs, t.hist)) = some (0b011#3, [.pin .ms1 true, .pin .ms2 true, .pin .ms3 false]) := by decide
/-- VG20. -/
theorem test_sgSetMode_fails : (nextOf (exec (.sgSetMode 4#3) (bench .fgTick cfgA [calm, failing]))).map
      (fun t => (t.fault, t.oMs)) = some (0xA3#8, 0b001#3) := by decide
theorem test_dispWelcome : (nextOf (exec .dispWelcome (bench .fgTick cfgA (calms 1)))).map (fun t => t.disp) =
    some (.frame .welcome) := by decide
theorem test_dispCalibrating_fails : (nextOf (exec .dispCalibrating (bench .fgTick cfgA [failing]))).map
      (fun t => (t.fault, t.disp)) = some (0xC0#8, .blank) := by decide
theorem test_dispHeight : (nextOf (exec (.dispHeight 45#32) (bench .fgTick cfgA (calms 1)))).map
      (fun t => (t.disp, t.hist)) = some (.frame (.height 45#32), [.disp (.height 45#32)]) := by decide
theorem test_dispHeight_three_digits :
    refusalOf (exec (.dispHeight 100#32) (bench .fgTick cfgA (calms 1))) = some .heightBeyondDisplay := by decide
theorem test_csEnter : (nextOf (exec .csEnter { bench .fgOpen cfgA [] with masked := false })).map
      (fun t => (t.masked, t.ctx)) = some (true, .fgOpen) := by decide
theorem test_csExit : (nextOf (exec .csExit (bench .fgTick cfgA []))).map (fun t => t.masked) = some false := by decide
/-- VK1. -/
theorem test_construct : (nextOf (exec .construct (bench .reset cfgA (calms 4)))).map
      (fun t => (t.maxh, t.hist, t.ctx, t.masked, t.disp)) =
    some (9000#32, [.pin .ms1 true, .pin .ms2 true, .pin .ms3 true, .disp .welcome], .fgOpen, false, .frame .welcome) := by
  decide
/-- VK4. -/
theorem test_construct_checks : (nextOf (exec .construct (bench .reset { cfgA with spm := 0#32, spt := 0#32 } []))).map
      (fun t => (t.fault, t.ctx, t.masked)) = some (0xE1#8, .halted, true) := by decide

/-! ### The configuration checks (vectors 2.7) -/

/-- VK5 to VK17. -/
theorem test_checks : [{ cfgA with maxMm := 99#32, spm := 43383509#32 }, { cfgA with maxMm := 99#32, spm := 43383508#32 },
      { cfgA with maxMm := 100#32 }, { cfgA with initTgt := 9001#32 }, { cfgA with initTgt := 9000#32 },
      { cfgA with homeOfs := 9001#32 }, { cfgA with hasLimit := true, limitOfs := 9001#32 },
      { cfgA with limitOfs := 9001#32 }, { cfgA with homingSteps := 0#32 }, { cfgA with mode := 5#3 },
      { cfgA with nmode := 2#2 }, { cfgA with maxMm := 0#32 }].map failingCheck =
    [some 3, none, some 4, some 5, none, some 6, some 7, none, some 8, some 9, some 9, none] := by decide

/-! ### The interrupt bridge (vectors 2.8) and the step -/

/-- VI1, VI5: a selected edge sets the latch; a second one is merged. -/
theorem test_edge_merged : (bench .fgTick cfgA
      [{ calm with moves := [⟨.encA, true⟩, ⟨.encA, false⟩, ⟨.encA, true⟩] }]).pass.ip = 0b001#3 := by decide
/-- VI2, VI3: the falling edge counts only under EdgeLatched. -/
theorem test_edge_policy :
    ({ bench .fgOpen cfgA [moving .encA false] with env.levels.a := true } : State).pass.ip = 0b000#3 ∧
    ({ bench .fgOpen { cfgA with qdPolicy := .edgeLatched } [moving .encA false] with env.levels.a := true } : State).pass.ip
      = 0b001#3 := by decide
/-- VI6 to VI8: not armed in RESET or HALTED; no latch without the sensor. -/
theorem test_edge_unarmed : (bench .reset cfgA [moving .encA true]).pass.ip = 0b000#3 ∧
    (bench .halted cfgA [moving .encA true]).pass.ip = 0b000#3 ∧
    (bench .fgTick cfgA [moving .limit true]).pass.ip = 0b000#3 := by decide
/-- VI9: the foreground is open, HOME is pending, and the step dispatches it. -/
theorem test_step_dispatches : (nextOf (step { bench .fgOpen cfgA (calms 1) with masked := false, ip := 0b010#3 })).map
      (fun t => (t.ip, t.masked, t.ctx, t.port)) = some (0b000#3, true, .hHome, [0x02#8, 0x41#8]) := by decide
/-- VI10. -/
theorem test_step_returns : (nextOf (step { bench .hHome cfgA [] with port := [0x41#8] })).map
      (fun t => (t.masked, t.ctx, t.port)) = some (false, .fgOpen, []) := by decide
/-- With nothing pending the foreground begins a tick (R217). -/
theorem test_step_ticks : (nextOf (step { bench .fgOpen cfgA (calms 1) with masked := false })).map
      (fun t => (t.masked, t.ctx, t.port)) = some (true, .fgTick, [0x00#8, 0x41#8]) := by decide
/-- VI12: under `Any` both sources can be chosen. -/
theorem test_chosen_any : ({ bench .fgOpen cfgA [] with ip := 0b011#3 } : State).chosen 0 = some .enc ∧
    ({ bench .fgOpen cfgA [] with ip := 0b011#3 } : State).chosen 1 = some .home := by decide
/-- R73: the edge comes after the last access of a TICK that makes none, and is pending at its end. -/
theorem test_edge_at_end_of_tick : (nextOf (step { tracking .fgTick cfgA [moving .home true] 9#32 9#32 with
      port := [0x00#8, 0x41#8] })).map (fun t => (t.ip, t.ctx, t.port)) = some (0b010#3, .fgTick, [0x41#8]) := by decide
/-- R73: an edge between the body and the end of its CS.EXIT is pending in FG_OPEN. -/
theorem test_edge_at_return : (nextOf (step { bench .hHome cfgA [moving .encA true] with port := [0x41#8] })).map
      (fun t => (t.ip, t.ctx)) = some (0b001#3, .fgOpen) := by decide
/-- R101: a request in HALTED is refused, the one that stands on the port and one placed there. -/
theorem test_halted_refuses : refusalOf (step { bench .halted cfgA [] with port := [0x00#8] }) = some .illegalInContext ∧
    refusalOf (step ((bench .halted cfgA []).withFetchWord 8 0x40)) = some .illegalInContext := by decide
theorem test_withFetchWord :
    step (State.reset.withFetchWord 8 0x21) = accompanied .sgEnable (exec .sgEnable State.reset) := rfl

/-! ### Witnesses: for each statement with hypotheses, a concrete state and operands that meet them -/

/-- `DecodeInvertsEncode`: the operand forms at the ends of their ranges. -/
theorem witness_wellFormed : Instr.wellFormed (.sgRotate true 0xFFFFFFFF#32) = true ∧
    Instr.wellFormed (.sgSetMode 0#3) = true ∧ Instr.wellFormed (.sgSetMode 4#3) = true ∧
    Instr.wellFormed (.dispHeight 0#32) = true := by decide
/-- `DecodedBytesAreTheEncoding`. -/
theorem witness_decoded : decode [0x2C#8, 0x41#8] = .op (.sgSetMode 4#3) [0x41#8] := by decide
/-- `ReservedCodesAreRefused`, second clause, at the first and the last code of each of its ranges. -/
theorem witness_reserved : [0x04#8, 0x0F#8, 0x11#8, 0x1F#8, 0x24#8, 0x27#8, 0x2D#8, 0x2F#8, 0x33#8, 0x3F#8, 0x43#8, 0xFF#8].all
    (fun op => let s : State := { bench .fgTick cfgA [] with port := [op] }
      s.port == [op] && decode [op] == .reserved op) = true := by decide
/-- `ReservedCodesAreRefused`, its clause on requesters: an empty port in RESET and in FG_OPEN. -/
theorem witness_requesters : (bench .reset cfgA []).port = [] ∧ (bench .reset cfgA []).ctx ≠ .halted ∧
    (bench .fgOpen cfgA []).port = [] ∧ (bench .fgOpen cfgA []).ctx ≠ .halted ∧ cfgA.hasLimit = false := by decide
/-- `TargetSaturates`: at the clamp and at the floor. -/
theorem witness_target : (9000#32 : Word).toNat ≤ (9000#32 : Word).toNat ∧ (0#32 : Word).toNat ≤ (9000#32 : Word).toNat := by
  decide
/-- `StepCountIsClamped`: below, above, and next to the target. -/
theorem witness_stepCount : (3#32 : Word) ≠ 10#32 ∧ (10#32 : Word) ≠ 3#32 ∧ (4#32 : Word) ≠ 3#32 ∧ (4#32 : Word) ≠ 0#32 ∧
    (3#32 : Word).toNat < (10#32 : Word).toNat := by decide
/-- `FrameShowsTargetInMillimetres`: both states, and a target at the upper end. -/
theorem witness_frame : (bench .fgTick cfgA []).cur = none ∧ (tracking .fgTick cfgA [] 0#32 9000#32).cur ≠ none ∧
    cfgA.spm ≠ 0#32 ∧ (9000#32 : Word).toNat ≤ cfgA.maxMm.toNat * cfgA.spm.toNat := by decide

/-- `QdUpdateDecodes`, `EncEdgeWithoutRotation`, `EncEdgeTurnsTarget`: each case of the decoder is met in H_ENC. -/
theorem witness_decode_bounced : DecodeStep (bench .hEnc cfgSure (calms 1)) (bench .hEnc cfgSure (calms 1)).pass .none :=
  .bounced rfl (State.grants_of_never rfl 1) (by decide)
theorem witness_decode_cw : DecodeStep (bench .hEnc cfgSure [moving .encA true, moving .encB true])
    (bench .hEnc cfgSure [moving .encA true, moving .encB true]).pass.pass .cw :=
  .immediateHigh rfl (State.grants_of_never rfl 2) (by decide) (by decide)
theorem witness_decode_ccw : DecodeStep (bench .hEnc cfgSure [moving .encA true, calm])
    (bench .hEnc cfgSure [moving .encA true, calm]).pass.pass .ccw :=
  .immediateLow rfl (State.grants_of_never rfl 2) (by decide) (by decide)
theorem witness_decode_start_cw :
    DecodeStep (bench .hEnc { cfgSure with qdPolicy := .edgeLatched } [moving .encA true, moving .encB true])
      { (bench .hEnc { cfgSure with qdPolicy := .edgeLatched } [moving .encA true, moving .encB true]).pass.pass with
        qdPend := .cw } .none :=
  .startHigh rfl (State.grants_of_never rfl 2) (by decide) (by decide)
theorem witness_decode_start_ccw : DecodeStep (bench .hEnc { cfgSure with qdPolicy := .edgeLatched } [moving .encA true, calm])
    { (bench .hEnc { cfgSure with qdPolicy := .edgeLatched } [moving .encA true, calm]).pass.pass with qdPend := .ccw } .none :=
  .startLow rfl (State.grants_of_never rfl 2) (by decide) (by decide)
theorem witness_decode_completed :
    DecodeStep { bench .hEnc { cfgSure with qdPolicy := .edgeLatched } (calms 1) with qdPend := .cw }
      { ({ bench .hEnc { cfgSure with qdPolicy := .edgeLatched } (calms 1) with qdPend := .cw } : State).pass with
        qdPend := .none } .cw :=
  .completed rfl (State.grants_of_never rfl 1) (by decide)
theorem witness_decode_legal : (bench .hEnc cfgSure []).masked = true ∧ (bench .hEnc cfgSure []).ctx = .hEnc := by decide
/-- `QdUpdateDecodes`, `EncEdgeReadFails`: two granted reads; a first read that fails; a second one that fails. -/
theorem witness_qd_faults : (bench .hEnc cfgSure []).grants 2 ∧ (bench .hEnc cfgA [failing]).granted = false ∧
    (bench .hEnc cfgA [moving .encA true, failing]).granted = true ∧
    (bench .hEnc cfgA [moving .encA true, failing]).pass.level .encA = activeLevel cfgA ∧
    (bench .hEnc cfgA [moving .encA true, failing]).pass.granted = false :=
  ⟨State.grants_of_never rfl 2, by decide, by decide, by decide, by decide⟩
/-- The clauses on a request outside its context: ctx FG_OPEN, and a body with the mask open. -/
theorem witness_illegal : ¬(bench .fgOpen cfgA []).InCall ∧ ¬({ bench .fgTick cfgA [] with masked := false } : State).InCall ∧
    ¬((bench .fgTick cfgA []).masked = true ∧ (bench .fgTick cfgA []).ctx = .hEnc) ∧
    ¬((bench .hEnc cfgA []).masked = true ∧ (bench .hEnc cfgA []).ctx = .fgTick) ∧
    ¬((bench .fgTick cfgA []).masked = true ∧ (bench .fgTick cfgA []).ctx = .hHome) ∧
    ¬((bench .fgTick cfgA []).masked = true ∧ (bench .fgTick cfgA []).ctx = .hLimit) ∧
    ¬((bench .fgTick cfgA []).masked = true ∧ (bench .fgTick cfgA []).ctx = .reset) := by decide

/-- `SgEnableDrivesLineAndFlag`, `SgDisableDrivesLineAndFlag`, `DispUpdateWritesFrame`: in a call, granted; in a call,
failed, also inside CONSTRUCT. -/
theorem witness_call : (bench .fgTick cfgA (calms 1)).InCall ∧ (bench .fgTick cfgA (calms 1)).granted = true ∧
    (bench .reset cfgA [failing]).InCall ∧ (bench .reset cfgA [failing]).granted = false ∧
    (bench .hHome cfgA [failing]).InCall ∧ cfgA.ioFaults = true ∧
    (bench .hHome cfgA [failing]).instant.answer = .fails .formatting := by decide
/-- `SgSetModeDrivesLines`: every mode code that has a mode, three lines granted, and the last of them failing. -/
theorem witness_setMode : modeOfCode 0#3 = some .full ∧ modeOfCode 4#3 = some .sixteenth ∧
    (bench .fgTick cfgA (calms 3)).grants (modeAccesses cfgA) ∧ 2 < modeAccesses cfgA ∧
    (bench .fgTick cfgA [calm, calm, failing]).grants 2 ∧
    ((bench .fgTick cfgA [calm, calm, failing]).passes 2).granted = false := by decide
/-- `SgSetModeDrivesLines`, repetition: the mode is set twice and neither halts. -/
theorem witness_setMode_twice : (nextOf (exec (.sgSetMode 4#3) (bench .fgTick cfgA (calms 6)))).map
      (fun t => (t.ctx != .halted, (nextOf (exec (.sgSetMode 4#3) t)).isSome)) = some (true, true) := by decide
/-- `DefaultModeTable`. -/
theorem witness_modeTable : cfgA.nmode = 3#2 ∧ cfgA.modeTable = none := by decide
/-- `SgRotateEmitsTrain`: no step and three steps, driver disabled and enabled, flag and line agreeing. -/
theorem witness_rotate : (bench .fgTick cfgA (calms 3)).grants (rotateAccesses false 0) ∧
    (bench .fgTick cfgA (calms 9)).grants (rotateAccesses false 3) ∧
    ({ bench .fgTick cfgA (calms 7) with sgEn := true, oEnN := false } : State).grants (rotateAccesses true 3) ∧
    (bench .fgTick cfgA []).sgEn = !(bench .fgTick cfgA []).oEnN := by decide
/-- `SgRotateAbortsOnFailure`: the first and the last of the seven writes of vector VG10 fail. -/
theorem witness_rotate_fails : (bench .fgTick cfgA [failing]).InCall ∧ (bench .fgTick cfgA [failing]).grants 0 ∧
    ((bench .fgTick cfgA [failing]).passes 0).granted = false ∧
    (rotateEvents false true (2#32 : Word).toNat)[0]? = some (.pin .dir true) ∧
    (bench .fgTick cfgA (calms 6 ++ [failing])).grants 6 ∧
    ((bench .fgTick cfgA (calms 6 ++ [failing])).passes 6).granted = false ∧
    (rotateEvents false true (2#32 : Word).toNat)[6]? = some (.pin .enN true) := by decide
/-- `SgRotateAbortsOnFailure`, second clause: program P5, whose sixth write fails. -/
theorem witness_tick_fails : 5 < rotateAccesses false (stepCount 3#32 10#32 20#32).toNat ∧
    (tracking .fgTick { cfgA with spt := 3#32 } (calms 5 ++ [failing]) 10#32 20#32).grants 5 ∧
    ((tracking .fgTick { cfgA with spt := 3#32 } (calms 5 ++ [failing]) 10#32 20#32).passes 5).granted = false ∧
    (nextOf (exec .tick (tracking .fgTick { cfgA with spt := 3#32 } (calms 5 ++ [failing]) 10#32 20#32))).map
      (fun t => (t.ctx, t.cur, t.fault, t.oStep)) = some (.halted, some 10#32, 0xA0#8, true) := by decide
theorem witness_tick_fails_cooldown : CooldownStep (tracking .fgTick { cfgA with spt := 3#32 } (calms 5 ++ [failing]) 10#32 20#32)
    (tracking .fgTick { cfgA with spt := 3#32 } (calms 5 ++ [failing]) 10#32 20#32) false :=
  .idleCounter rfl rfl
/-- `SgRotateAbortsOnFailure`, the homing step and the move of LIMIT_EDGE: the first and the last write fail. -/
theorem witness_abort_bodies : (bench .fgTick cfgA [failing]).cur = none ∧ 0 < rotateAccesses false 1 ∧
    (bench .fgTick cfgA [failing]).grants 0 ∧ ((bench .fgTick cfgA [failing]).passes 0).granted = false ∧
    (nextOf (exec .tick (bench .fgTick cfgA [failing]))).map (fun t => (t.ctx, t.cur)) = some (.halted, none) ∧
    (nextOf (exec .limitEdge (tracking .hLimit { cfgA with hasLimit := true, limitOfs := 2#32 } (calms 6 ++ [failing])
      1200#32 400#32))).map (fun t => (t.ctx, t.cur, t.fault)) = some (.halted, some 1200#32, 0xA2#8) := by decide
theorem witness_abort_cooldown : CooldownStep (bench .fgTick cfgA [failing]) (bench .fgTick cfgA [failing]) false :=
  .idleCounter rfl rfl
/-- `EveryPulseIsEffective`, `TickRecordsTheMotion`: a Tracking TICK that completes, from flag and line agreeing. -/
theorem witness_motion : (tracking .fgTick cfgA (calms 5) 5#32 9#32).sgEn = !(tracking .fgTick cfgA (calms 5) 5#32 9#32).oEnN ∧
    (tracking .fgTick cfgA (calms 5) 5#32 9#32).oStep = false ∧
    (nextOf (exec .tick (tracking .fgTick cfgA (calms 5) 5#32 9#32))).map
      (fun t => (t.ctx, pulses (tracking .fgTick cfgA (calms 5) 5#32 9#32).lines t.hist)) =
      some (.fgTick, [{ dir := true, effective := true }]) := by decide
/-- `DispUpdateWritesFrame`, `ThreeDigitHeightsAreRefused`: the heights where the clauses meet. -/
theorem witness_heights : (99#32 : Word).toNat ≤ 99 ∧ 100 ≤ (100#32 : Word).toNat := by decide

/-- The cases of the cooldown test, for the statements about TICK. -/
theorem witness_cooldown_counted : CooldownStep { tracking .fgTick cfgA [] 5#32 9#32 with cd := 1#32 }
    { tracking .fgTick cfgA [] 5#32 9#32 with cd := 0#32 } true :=
  .counted rfl (by decide)
theorem witness_cooldown_idle : CooldownStep (tracking .fgTick cfgSure [] 5#32 9#32) (tracking .fgTick cfgSure [] 5#32 9#32) false :=
  .idleCounter rfl rfl
theorem witness_cooldown_idle_clock : CooldownStep (tracking .fgTick { cfgA with deb := .elapsedTime } [] 5#32 9#32)
    (tracking .fgTick { cfgA with deb := .elapsedTime } [] 5#32 9#32) false :=
  .idleClock rfl rfl
/-- A block under ElapsedTime with `COOLDOWN = 500`, a click at 1000 and the clock about to read `n` (V-C6). -/
def clocked (n : Time) : State :=
  { tracking .fgTick { cfgA with deb := .elapsedTime, cooldown := 500#32 } [{ calm with advance := n }] 5#32 9#32 with
    cd := 1000#32, cdV := true }
/-- At 1500 the window is over. -/
theorem witness_cooldown_expired : CooldownStep (clocked 1500#32) { (clocked 1500#32).pass with cdV := false } false :=
  .expired rfl rfl (by decide)
/-- At 1499 it is not. -/
theorem witness_cooldown_open : CooldownStep (clocked 1499#32) (clocked 1499#32).pass true :=
  .open_ rfl rfl (by decide)
/-- `CooldownGatesTrackingOnly`: no cooldown time, under both policies. -/
theorem witness_cooldown_zero : WindowOpened (tracking .hEnc cfgA [] 5#32 9#32)
      { tracking .hEnc cfgA [] 5#32 9#32 with cd := cfgA.cooldown } ∧ cfgA.deb = .tickCounter ∧ cfgA.cooldown = 0#32 ∧
    ({ cfgA with deb := .elapsedTime } : Cfg).deb = .elapsedTime :=
  ⟨.counter rfl, rfl, rfl, rfl⟩
theorem witness_window_clock : WindowOpened (clocked 1500#32)
    { (clocked 1500#32).pass with cd := (clocked 1500#32).pass.env.now, cdV := true } :=
  .clock rfl
/-- The place of a TICK, Tracking and Uncalibrated, at the target and off it. -/
theorem witness_tick : (tracking .fgTick cfgSure [] 5#32 9#32).masked = true ∧
    (tracking .fgTick cfgSure [] 5#32 9#32).ctx = .fgTick ∧ (tracking .fgTick cfgSure [] 5#32 9#32).cur = some 5#32 ∧
    (5#32 : Word) ≠ (tracking .fgTick cfgSure [] 5#32 9#32).tgt ∧
    (tracking .fgTick cfgSure [] 9#32 9#32).cur = some (tracking .fgTick cfgSure [] 9#32 9#32).tgt ∧
    (bench .fgTick cfgSure []).cur = none ∧ cfgSure.spt ≠ 0#32 := by decide
/-- `TickAtTargetIsIdle`: its cooldown case. -/
theorem witness_tick_idle : CooldownStep (tracking .fgTick cfgSure [] 9#32 9#32) (tracking .fgTick cfgSure [] 9#32 9#32) false :=
  .idleCounter rfl rfl
/-- `TickMovesTowardTarget`, `TicksConvergeToTarget`: every request is granted. -/
theorem witness_tick_grants : ∀ n, (tracking .fgTick cfgSure [] 5#32 9#32).grants n :=
  State.grants_of_never rfl
/-- `TickMovesTowardTarget`: the count, on either side of the target. -/
theorem witness_tick_count : 1 = min cfgSure.spt.toNat (distance 5#32 9#32) ∧ 1 = min cfgSure.spt.toNat (distance 9#32 5#32) := by
  decide
/-- `TickHomesAndCalibrates`: the homing step is granted; the read of the sensor fails; it reads 0; it reads 1; it reads 1
and the display fails. -/
theorem witness_homing : (bench .fgTick cfgA (calms 6)).grants (rotateAccesses false 1) ∧
    (bench .fgTick cfgA (calms 5 ++ [failing])).grants (rotateAccesses false 1) ∧
    ((bench .fgTick cfgA (calms 5 ++ [failing])).rotated false 1).granted = false ∧
    ((bench .fgTick cfgA (calms 6)).rotated false 1).granted = true ∧
    (bench .fgTick cfgA (calms 5 ++ [moving .home true, calm])).grants (rotateAccesses false 1) ∧
    ((bench .fgTick cfgA (calms 5 ++ [moving .home true, calm])).rotated false 1).granted = true ∧
    ((bench .fgTick cfgA (calms 5 ++ [moving .home true, failing])).rotated false 1).granted = true ∧
    ((bench .fgTick cfgA (calms 6)).rotated false 1).pass.level .home = false ∧
    ((bench .fgTick cfgA (calms 5 ++ [moving .home true, calm])).rotated false 1).pass.level .home = true ∧
    ((bench .fgTick cfgA (calms 5 ++ [moving .home true, calm])).rotated false 1).pass.granted = true ∧
    ((bench .fgTick cfgA (calms 5 ++ [moving .home true, failing])).rotated false 1).pass.level .home = true ∧
    ((bench .fgTick cfgA (calms 5 ++ [moving .home true, failing])).rotated false 1).pass.instant.answer = .fails .formatting ∧
    (bench .fgTick cfgA (calms 5 ++ [moving .home true, failing])).grants (rotateAccesses false 1) ∧
    (0#32 : Word).toNat = (0#32 : Word).toNat / cfgA.spm.toNat := by decide
theorem witness_homing_cooldown : CooldownStep (bench .fgTick cfgA (calms 6)) (bench .fgTick cfgA (calms 6)) false :=
  .idleCounter rfl rfl
/-- `CalibrationNeedsHome`: a TICK that calibrates. -/
theorem witness_calibration : (bench .fgTick cfgA (calms 5 ++ [moving .home true, calm])).cur = none ∧
    (nextOf (exec .tick (bench .fgTick cfgA (calms 5 ++ [moving .home true, calm])))).map (fun t => t.cur) =
      some (some 0#32) := by decide
theorem witness_calibration_cooldown : CooldownStep (bench .fgTick cfgA (calms 5 ++ [moving .home true, calm]))
    (bench .fgTick cfgA (calms 5 ++ [moving .home true, calm])) false :=
  .idleCounter rfl rfl

/-- A block in ENC_EDGE that has decoded CW, with a new target written and the instants still to come. -/
def clicked (h : Option Word) (t : Word) (l : List Instant) : State :=
  ({ bench .hEnc cfgA ([moving .encA true, moving .encB true] ++ l) with cur := h, tgt := t } : State).pass.pass
/-- `EncEdgeTurnsTarget`: at the clamp; below it, Uncalibrated, Tracking, and with a failing display. -/
theorem witness_turn : (9000#32 : Word).toNat = min ((9000#32 : Word).toNat + cfgA.spm.toNat) 9000 ∧
    (200#32 : Word).toNat = min ((0#32 : Word).toNat + cfgA.spm.toNat) 9000 ∧ (200#32 : Word) ≠ 0#32 ∧
    (0#32 : Word).toNat = (150#32 : Word).toNat - cfgA.spm.toNat ∧
    (clicked none 200#32 [calm]).granted = true ∧ (clicked (some 0#32) 200#32 [calm]).granted = true ∧
    (clicked (some 0#32) 200#32 [failing]).instant.answer = .fails .formatting ∧
    (1#32 : Word).toNat = (200#32 : Word).toNat / cfgA.spm.toNat := by decide
theorem witness_turn_decode : DecodeStep (bench .hEnc cfgA [moving .encA true, moving .encB true, calm])
    (bench .hEnc cfgA [moving .encA true, moving .encB true, calm]).pass.pass .cw :=
  .immediateHigh rfl (by decide) (by decide) (by decide)
theorem witness_turn_window : WindowOpened (clicked none 200#32 [calm]) { clicked none 200#32 [calm] with cd := 0#32 } :=
  .counter rfl
/-- `HomeEdgeForcesRecalibration`: in H_HOME, granted and failing. -/
theorem witness_homeEdge : (tracking .hHome cfgA (calms 1) 77#32 9#32).masked = true ∧
    (tracking .hHome cfgA (calms 1) 77#32 9#32).ctx = .hHome ∧ (tracking .hHome cfgA (calms 1) 77#32 9#32).granted = true ∧
    (tracking .hHome cfgA [failing] 77#32 9#32).instant.answer = .fails .formatting := by decide
/-- A block with the limit sensor in H_LIMIT, with the offset and the coming instants given. -/
def limited (ofs : Word) (l : List Instant) : State :=
  tracking .hLimit { cfgA with hasLimit := true, limitOfs := ofs } l 1200#32 400#32
/-- `LimitEdgeRecordsOffset`: an offset of 0 and of 2, a failing display, and a move whose last write fails. -/
theorem witness_limitEdge : (limited 0#32 [calm]).masked = true ∧ (limited 0#32 [calm]).ctx = .hLimit ∧
    (limited 0#32 [calm]).granted = true ∧ (limited 2#32 (calms 8)).grants (rotateAccesses false 2) ∧
    ((limited 2#32 (calms 8)).rotated true 2).granted = true ∧ (0#32 : Word).toNat = (2#32 : Word).toNat / cfgA.spm.toNat ∧
    ((limited 2#32 (calms 7 ++ [failing])).rotated true 2).instant.answer = .fails .formatting ∧
    (limited 2#32 (calms 7 ++ [failing])).grants (rotateAccesses false 2) ∧
    6 < rotateAccesses false 2 ∧ (limited 2#32 (calms 6 ++ [failing])).grants 6 ∧
    ((limited 2#32 (calms 6 ++ [failing])).passes 6).granted = false := by decide
/-- `AtMostOneFrame`, `HistoryOnlyGrows` and the frames: an operation and a step that answer a next state. -/
theorem witness_next : (nextOf (exec .dispWelcome (bench .fgTick cfgA (calms 1)))).isSome = true ∧
    (nextOf (step { bench .fgTick cfgA (calms 5) with port := [0x00#8, 0x41#8] })).isSome = true := by decide
/-- `CsEnterMasks`, `CsExitUnmasks`: legal and not. -/
theorem witness_cs : ({ bench .fgOpen cfgA [] with masked := false } : State).masked = false ∧
    (bench .fgOpen cfgA []).ctx ≠ .halted ∧
    ¬((bench .fgOpen cfgA []).masked = false ∧ (bench .fgOpen cfgA []).ctx ≠ .halted) ∧
    ¬((bench .halted cfgA []).masked = true ∧ (bench .halted cfgA []).ctx ≠ .halted) := by decide
/-- The registers after the first lines of CONSTRUCT, under CFG-A. -/
def built (l : List Instant) : State := (bench .reset cfgA l).initRegisters
/-- `ConstructBuildsController`: a failing check at either end; a good configuration; three mode lines granted and then
the frame granted, or failing; the last mode line failing. -/
theorem witness_construct : failingCheck { cfgA with spm := 0#32 } = some 1 ∧ failingCheck { cfgA with mode := 7#3 } = some 9 ∧
    failingCheck cfgA = none ∧ modeOfCode cfgA.mode = some .sixteenth ∧ (bench .reset cfgA (calms 4)).masked = true ∧
    (bench .reset cfgA (calms 4)).ctx = .reset ∧ (bench .reset cfgA (calms 4)).grants (modeAccesses cfgA) ∧
    ((built (calms 4)).modeDriven (modeLevels cfgA .sixteenth) 3 3).granted = true ∧
    (bench .reset cfgA (calms 3 ++ [failing])).grants (modeAccesses cfgA) ∧
    ((built (calms 3 ++ [failing])).modeDriven (modeLevels cfgA .sixteenth) 3 3).instant.answer = .fails .formatting ∧
    2 < modeAccesses cfgA ∧ (bench .reset cfgA (calms 2 ++ [failing])).grants 2 ∧
    ((bench .reset cfgA (calms 2 ++ [failing])).passes 2).granted = false := by decide
/-- `FaultHaltsTheBlock`, `OnlyListedFaultsAreRaised`: an operation that halts, from no fault and with one latched. -/
theorem witness_halts : (bench .fgTick cfgA [failing]).fault = 0x00#8 ∧
    (nextOf (exec .sgEnable (bench .fgTick cfgA [failing]))).map (fun t => (t.ctx, t.fault)) = some (.halted, 0xA2#8) ∧
    (nextOf (exec .sgEnable { bench .fgTick cfgA [failing] with fault := 0xC1#8 })).map (fun t => (t.ctx, t.fault)) =
      some (.halted, 0xC1#8) ∧ (bench .halted cfgA []).ctx = .halted ∧ (bench .halted cfgA []).port = [] ∧
    ({ bench .halted cfgA [] with port := [0x2D#8] } : State).port ≠ [] ∧
    (nextOf (step { bench .fgTick cfgA [failing] with port := [0x00#8, 0x41#8] })).map (fun t => (t.ctx, t.port)) =
      some (.halted, []) := by decide
/-- `IllegalInContextIsRefused`: each of its clauses is met. -/
theorem witness_illegalInContext : ({ bench .fgTick cfgA [] with masked := false } : State).masked = false ∧
    (bench .fgTick cfgA []).masked = true ∧ (bench .fgTick cfgA []).ctx ≠ .reset ∧ (bench .fgOpen cfgA []).ctx = .fgOpen ∧
    (bench .halted cfgA []).ctx = .halted ∧
    decode ({ bench .halted cfgA [] with port := [0x41#8] } : State).port = .op .csExit [] := by decide
/-- `EdgesPendByEndOfBody`: LIMIT with the sensor, the other two without; in a TICK at the target, and at its end. -/
theorem witness_pend : (limited 0#32 []).cfg.hasLimit = true ∧ cfgA.hasLimit = false ∧ (0b011#3 : BitVec 3).getLsbD 2 = false ∧
    (let s : State := { tracking .fgTick cfgA [] 9#32 9#32 with port := [0x00#8, 0x41#8] }
     s.masked = true ∧ s.ctx = .fgTick ∧ s.port = [0x00#8, 0x41#8] ∧ s.cfg.deb = .tickCounter ∧ s.cur = some s.tgt) ∧
    (bench .hLimit cfgA []).ctx.isBody = true ∧ ({ bench .hLimit cfgA [] with port := [0x41#8] } : State).port = [0x41#8] := by
  decide
/-- `EdgesSetPendingLatches`: a pin that has the level and one that has not; a step that clears a latch. -/
theorem witness_edges : Levels.get (bench .fgOpen cfgA []).env.levels .encA = false ∧
    Levels.get (bench .fgOpen cfgA []).env.levels .encA ≠ true ∧ (bench .fgOpen cfgA []).ctx ≠ .reset ∧
    (0b010#3 : BitVec 3).getLsbD (Source.index .home) = true ∧
    (nextOf (step { bench .fgOpen cfgA (calms 1) with masked := false, ip := 0b010#3 })).map
      (fun t => t.ip.getLsbD (Source.index .home)) = some false := by decide
/-- `ArbiterChoosesPending`: two sources pending, under `Any` and under an order. -/
theorem witness_arbiter : ({ bench .fgOpen { cfgA with arb := .hel } [] with ip := 0b011#3 } : State).chosen 0 = some .home ∧
    ({ bench .fgOpen { cfgA with arb := .hel } [] with ip := 0b011#3 } : State).isPending .enc = true ∧
    ({ cfgA with arb := .hel } : Cfg).arb ≠ .any ∧ cfgA.arb = .any := by decide
/-- `DispatchEntersHandler`: a source is chosen. -/
theorem witness_dispatch : ({ bench .fgOpen cfgA (calms 1) with masked := false, ip := 0b010#3 } : State).chosen
    ({ bench .fgOpen cfgA (calms 1) with masked := false, ip := 0b010#3 } : State).instant.choice = some .home ∧
    (bench .fgOpen cfgA []).port = [] ∧ (bench .fgOpen cfgA []).ctx = .fgOpen := by decide
/-- `HandlerReturns`, `ForegroundTicks`: the port as the body leaves it, and empty; nothing pending, and something. -/
theorem witness_returns : (bench .hEnc cfgA []).ctx = .hEnc ∧ (bench .hEnc cfgA []).masked = true ∧
    ({ bench .hLimit cfgA [] with port := [0x41#8] } : State).port = [0x41#8] ∧ (bench .hEnc cfgA []).port = [] ∧
    ({ bench .fgOpen cfgA (calms 1) with masked := false } : State).pendingBits = 0b000#3 ∧
    ({ bench .fgOpen cfgA (calms 1) with masked := false, ip := 0b001#3 } : State).pendingBits ≠ 0b000#3 ∧
    (nextOf (step { bench .fgOpen cfgA (calms 1) with masked := false, ip := 0b001#3 })).map (fun t => t.ctx) = some .hEnc ∧
    (nextOf (step (bench .hEnc cfgA (calms 1)))).map (fun t => (t.masked, t.ctx)) = some (false, .fgOpen) := by decide
/-- `BodiesAreMutuallyExclusive`: a step inside a body, and one that enters a body. -/
theorem witness_bodies : (bench .hEnc cfgA []).ctx.isBody = true ∧
    (nextOf (step { bench .hEnc cfgA [] with port := [0x41#8] })).isSome = true ∧
    (nextOf (step { bench .fgOpen cfgA (calms 1) with masked := false })).map (fun t => t.ctx.isBody) = some true := by decide
/-- `StepRunsDecodedOperation`: a body opcode, CS.ENTER and CS.EXIT on the port. -/
theorem witness_stepRuns : decode ({ bench .fgTick cfgA [] with port := [0x00#8, 0x41#8] } : State).port =
      .op .tick [0x41#8] ∧ (nextOf (exec .tick { bench .fgTick cfgA (calms 6) with port := [0x41#8] })).isSome = true ∧
    refusalOf (exec .tick { bench .halted cfgA [] with port := [0x41#8] }) = some .illegalInContext ∧
    (bench .fgTick cfgA []).ctx ≠ .halted ∧ (bench .halted cfgA []).ctx = .halted ∧
    decode [0x40#8, 0x00#8, 0x41#8] = .op .csEnter [0x00#8, 0x41#8] ∧ decode [0x41#8] = .op .csExit [] := by decide
/-- A quiescent Tracking state of CFG-A, 1 mm up with the target at 9 mm (TRK of the test vectors). -/
def quiescent : State :=
  { tracking .fgOpen cfgA (calms 1) 200#32 1800#32 with masked := false, oMs := 0b111#3, disp := .frame (.height 9#32) }
/-- `StepKeepsInvariant`: a state with the invariant from which the step answers a next state. -/
theorem witness_invariant : quiescent.Inv ∧ (nextOf (step quiescent)).map (fun t => t.ctx) = some .fgTick := by
  refine ⟨?_, by decide⟩
  constructor
  case port => exact rfl
  case masked => decide
  case tgt => decide
  case cur => intro c h; cases h; decide
  case fault => decide
  case latched => decide
  case driver => decide
  case asReset => intro h; cases h
  case built => exact fun _ _ => ⟨by decide, by decide, .sixteenth, by decide, by decide⟩
  case noLimit => decide
  case qdPend => decide
  case cdV => decide
  case disp => intro mm h; cases h; decide

end Sys2Proof.Tests
end

section
/-!
PROOFS. The registers and the history (10_state.md). Each write that an operation can make is named once, with the
operations that 10_state.md and 20_memory.md R61 name for it; what an operation keeps then follows from what its writes
keep, and every frame is one use of that.
-/

namespace Sys2Proof.Machine

open Sys2Proof

variable {P : State → Prop} {i : Instr} {s t : State}

/-! ### The writes of an operation -/

/-- What an operation can do to a register, beside letting time pass and taking a fault. -/
inductive Write where
  | line (p : OutPin) (b : Bool)
  | frame (f : Frame)
  | sgEn (b : Bool)
  | tgt (v : Word)
  | cur (v : Option Word)
  | cd (v : Time)
  | cdV (v : Bool)
  | qdPend (r : Rotation)
  | reply (v : Option Rotation)
  | masked (b : Bool)
  | initRegisters
  | openForeground

/-- The write, made in a state. -/
def Write.apply (s : State) : Write → State
  | .line p b => (s.setLatch p b).record (.pin p b)
  | .frame f => (s.setDisp (.frame (shownFrame f))).record (.disp (shownFrame f))
  | .sgEn b => s.setSgEn b
  | .tgt v => s.setTgt v
  | .cur v => s.setCur v
  | .cd v => s.setCd v
  | .cdV v => s.setCdV v
  | .qdPend r => s.latchRotation r
  | .reply v => s.setReply v
  | .masked b => s.setMasked b
  | .initRegisters => s.initRegisters
  | .openForeground => s.openForeground

/-- The operations that make a pulse train (R61, ports 8 and 9). -/
def Rotates (i : Instr) : Prop :=
  i = .tick ∨ i = .limitEdge ∨ ∃ d n, i = .sgRotate d n

/-- The operations that write the enable line and flag (R25; R61, port 10). -/
def Drives (i : Instr) : Prop :=
  Rotates i ∨ i = .sgEnable ∨ i = .sgDisable

/-- The operations that write the mode lines (R61, ports 11 to 13). -/
def SetsMode (i : Instr) : Prop :=
  (∃ m, i = .sgSetMode m) ∨ i = .construct

/-- The operations that write the display (R33, R61). -/
def Displays (i : Instr) : Prop :=
  i = .tick ∨ i = .encEdge ∨ i = .homeEdge ∨ i = .limitEdge ∨ i = .dispWelcome ∨ i = .dispCalibrating ∨
    (∃ mm, i = .dispHeight mm) ∨ i = .construct

/-- The operations that sample the encoder (R24). -/
def Decodes (i : Instr) : Prop :=
  i = .qdUpdate ∨ i = .encEdge

/-- The operations that advance or open the cooldown window (R23). -/
def TimesCooldown (i : Instr) : Prop :=
  i = .tick ∨ i = .encEdge

/-- The writes that an operation can make, by the operations that R21 to R27, R33, R61 and R182 name for each. -/
def Write.Within (i : Instr) : Write → Prop
  | .line .step _ => Rotates i
  | .line .dir _ => Rotates i
  | .line .enN _ => Drives i
  | .line .ms1 _ => SetsMode i
  | .line .ms2 _ => SetsMode i
  | .line .ms3 _ => SetsMode i
  | .frame _ => Displays i
  | .sgEn _ => Drives i
  | .tgt _ => i = .encEdge ∨ i = .limitEdge
  | .cur _ => i = .tick ∨ i = .homeEdge ∨ i = .limitEdge
  | .cd _ => TimesCooldown i
  | .cdV _ => TimesCooldown i
  | .qdPend _ => Decodes i
  | .reply _ => i = .qdUpdate
  | .masked _ => i = .csEnter ∨ i = .csExit
  | .initRegisters => i = .construct
  | .openForeground => i = .construct

theorem within_of_rotates {p : OutPin} (b : Bool) (hi : Rotates i) (hp : p = .step ∨ p = .dir ∨ p = .enN) :
    (Write.line p b).Within i := by
  rcases hp with rfl | rfl | rfl
  · exact hi
  · exact hi
  · exact Or.inl hi

theorem within_of_setsMode {p : OutPin} (b : Bool) (hi : SetsMode i) (hp : OutPin.role p = .mode) :
    (Write.line p b).Within i := by
  cases p with
  | ms1 | ms2 | ms3 => exact hi
  | step | dir | enN => cases hp

/-- A predicate that passing time, a fault and every write of the operation keep. -/
structure Keeps (P : State → Prop) (i : Instr) : Prop where
  pass : ∀ s, P s → P s.pass
  fault : ∀ s f, P s → P (s.takeFault f)
  write : ∀ (w : Write) s, w.Within i → P s → P (w.apply s)

namespace Keeps

/-! ### The parts of a body keep what its writes keep -/

theorem pinRead (hP : Keeps P i) (p : InPin) (h : P s) : P (pinRead p s).st := by
  cases hg : s.granted with
  | true => rw [pinRead_granted p hg]; exact hP.pass _ h
  | false => rw [pinRead_failed p hg]; exact hP.fault _ _ (hP.pass _ h)

theorem pinWrite (hP : Keeps P i) {p : OutPin} {b : Bool} (hw : (Write.line p b).Within i) (h : P s) :
    P (pinWrite p b s).st := by
  cases hg : s.granted with
  | true => rw [pinWrite_granted p b hg]; exact hP.write _ _ hw (hP.pass _ h)
  | false => rw [pinWrite_failed p b hg]; exact hP.fault _ _ (hP.pass _ h)

theorem dispUpdate (hP : Keeps P i) (hi : Displays i) (f : Frame) (h : P s) : P (dispUpdate f s).st := by
  unfold Machine.dispUpdate
  cases hg : s.granted with
  | true => rw [dispWrite_granted f hg]; exact hP.write (.frame f) _ hi (hP.pass _ h)
  | false => rw [dispWrite_failed f hg]; exact hP.fault _ _ (hP.pass _ h)

theorem writeAll (hP : Keeps P i) {ws : List (OutPin × Bool)} (hw : ∀ w ∈ ws, (Write.line w.1 w.2).Within i)
    (h : P s) : P (writeAll ws s).st := by
  induction ws generalizing s with
  | nil => exact h
  | cons w ws ih =>
    exact Run.bind_keeps (hP.pinWrite (hw w List.mem_cons_self) h) fun _ _ ht =>
      ih (fun v hv => hw v (List.mem_cons_of_mem w hv)) ht

theorem sgEnable (hP : Keeps P i) (hi : Drives i) (h : P s) : P (sgEnable s).st :=
  Run.bind_keeps (hP.pinWrite hi h) fun _ _ ht => hP.write (.sgEn true) _ hi ht

theorem sgDisable (hP : Keeps P i) (hi : Drives i) (h : P s) : P (sgDisable s).st :=
  Run.bind_keeps (hP.pinWrite hi h) fun _ _ ht => hP.write (.sgEn false) _ hi ht

theorem sgRotate (hP : Keeps P i) (hi : Rotates i) (d : Bool) (steps : Word) (h : P s) :
    P (sgRotate d steps s).st := by
  cases he : s.sgEn with
  | true =>
    rw [sgRotate_enabled d steps he]
    exact hP.writeAll (fun w hw => within_of_rotates _ hi (rotateWrites_lines true d steps.toNat w hw)) h
  | false =>
    have hw : ∀ w ∈ [((.dir : OutPin), d), (.enN, false)] ++ (pulseWrites steps.toNat ++ [((.enN : OutPin), true)]),
        (Write.line w.1 w.2).Within i :=
      fun w hw => within_of_rotates _ hi (rotateWrites_lines false d steps.toNat w hw)
    rw [sgRotate_disabled d steps he]
    refine Run.bind_keeps (hP.writeAll (fun w hm => hw w (List.mem_append_left _ hm)) h) fun _ _ ht => ?_
    have ht := hP.write (.sgEn true) _ (Or.inl hi) ht
    exact Run.bind_keeps (hP.writeAll (fun w hm => hw w (List.mem_append_right _ hm)) ht) fun _ _ hu =>
      hP.write (.sgEn false) _ (Or.inl hi) hu

theorem sgSetMode (hP : Keeps P i) (hi : SetsMode i) (m : MicrostepMode) (h : P s) : P (sgSetMode m s).st := by
  rw [sgSetMode_eq_writeAll]
  exact hP.writeAll (fun w hw => within_of_setsMode _ hi (modeWrites_role _ _ w hw)) h

theorem qdUpdate (hP : Keeps P i) (hi : Decodes i) (h : P s) : P (qdUpdate s).st := by
  unfold Machine.qdUpdate
  split
  · refine Run.bind_keeps (hP.pinRead _ h) fun a t ht => ?_
    split
    · exact Run.bind_keeps (hP.pinRead _ ht) fun _ _ hu => hu
    · exact ht
  · refine Run.bind_keeps (hP.pinRead _ h) fun a t ht => ?_
    split
    · exact Run.bind_keeps (hP.pinRead _ ht) fun b _ hu => hP.write (.qdPend (directionOf b)) _ hi hu
    · exact hP.write (.qdPend .none) _ hi ht

theorem openCooldown (hP : Keeps P i) (hi : TimesCooldown i) (h : P s) : P (openCooldown s).st := by
  unfold Machine.openCooldown
  split
  · exact hP.write (.cd _) _ hi h
  · exact hP.write (.cdV true) _ hi (hP.write (.cd _) _ hi (hP.pass _ h))

end Keeps

/-! ### The cooldown test -/

/-- The cooldown test raises nothing and follows one of the cases of R156. -/
theorem cooldownTest_ret (s : State) : ∃ s' b, CooldownStep s s' b ∧ cooldownTest s = .ret b s' := by
  cases hd : s.cfg.deb with
  | tickCounter =>
    by_cases hc : s.cd = 0#32
    · exact ⟨s, false, .idleCounter hd hc, by simp [cooldownTest, hd, hc]⟩
    · have hlt : 0#32 < s.cd := by bv_omega
      exact ⟨_, true, .counted hd hc, by simp only [cooldownTest, hd, if_pos hlt]; rfl⟩
  | elapsedTime =>
    cases hv : s.cdV with
    | false => exact ⟨s, false, .idleClock hd hv, by simp [cooldownTest, hd, hv]⟩
    | true =>
      by_cases ht : s.cfg.cooldown ≤ s.pass.env.now - s.cd
      · exact ⟨_, false, .expired hd hv ht, by simp [cooldownTest, hd, hv, clockRead, ht]; rfl⟩
      · exact ⟨_, true, .open_ hd hv (Nat.lt_of_not_le ht), by simp [cooldownTest, hd, hv, clockRead, ht]⟩

/-- The cooldown test writes the cooldown state alone, at most after one access (R156). -/
theorem CooldownStep.eq_write {s' : State} {b : Bool} (h : CooldownStep s s' b) :
    ∃ u, (u = s ∨ u = s.pass) ∧ s' = (u.setCd s'.cd).setCdV s'.cdV := by
  cases h with
  | counted | idleCounter | idleClock => exact ⟨s, .inl rfl, rfl⟩
  | expired | open_ => exact ⟨s.pass, .inr rfl, rfl⟩

namespace Keeps

theorem cooldownTest (hP : Keeps P i) (hi : TimesCooldown i) (h : P s) : P (cooldownTest s).st := by
  obtain ⟨s', b, hstep, heq⟩ := cooldownTest_ret s
  obtain ⟨u, hu, hs'⟩ := hstep.eq_write
  have hPu : P u := by
    rcases hu with rfl | rfl
    · exact h
    · exact hP.pass _ h
  rw [heq, Run.ret_st, hs']
  exact hP.write (.cdV _) _ hi (hP.write (.cd _) _ hi hPu)

/-! ### Each body and each operation keeps what its writes keep -/

theorem tickHoming (hP : Keeps P .tick) (h : P s) : P (tickHoming s).st := by
  refine Run.bind_keeps (hP.sgRotate (.inl rfl) _ _ h) fun _ _ ht => Run.bind_keeps (hP.pinRead _ ht) fun _ _ hu => ?_
  split
  · exact hP.dispUpdate (.inl rfl) _ (hP.write (.cur _) _ (.inl rfl) hu)
  · exact hu

theorem tickMove (hP : Keeps P .tick) (c : Word) (h : P s) : P (tickMove c s).st := by
  unfold Machine.tickMove
  split <;>
    exact Run.bind_keeps (hP.sgRotate (.inl rfl) _ _ h) fun _ _ ht => hP.write (.cur _) _ (.inl rfl) ht

theorem tickBody (hP : Keeps P .tick) (h : P s) : P (tickBody s).st := by
  refine Run.bind_keeps (hP.cooldownTest (.inl rfl) h) fun _ _ ht => ?_
  split
  · exact hP.tickHoming ht
  · split
    · exact hP.tickMove _ ht
    · exact ht

theorem turn (hP : Keeps P .encEdge) (r : Rotation) (h : P s) : P (turn r s).st := by
  refine Run.bind_keeps (hP.openCooldown (.inr rfl) (hP.write (.tgt _) _ (.inl rfl) h)) fun _ _ ht => ?_
  split
  · exact hP.dispUpdate (.inr (.inl rfl)) _ ht
  · exact ht

theorem encEdgeBody (hP : Keeps P .encEdge) (h : P s) : P (encEdgeBody s).st := by
  refine Run.bind_keeps (hP.qdUpdate (.inr rfl) h) fun r _ ht => ?_
  cases r with
  | none => exact ht
  | cw => exact hP.turn _ ht
  | ccw => exact hP.turn _ ht

theorem homeEdgeBody (hP : Keeps P .homeEdge) (h : P s) : P (homeEdgeBody s).st :=
  hP.dispUpdate (by simp [Displays]) _ (hP.write (.cur none) _ (.inr (.inl rfl)) h)

theorem limitMove (hP : Keeps P .limitEdge) (h : P s) : P (limitMove s).st := by
  unfold Machine.limitMove
  split
  · exact hP.sgRotate (.inr (.inl rfl)) _ _ h
  · exact h

theorem limitEdgeBody (hP : Keeps P .limitEdge) (h : P s) : P (limitEdgeBody s).st :=
  Run.bind_keeps (hP.limitMove h) fun _ _ ht =>
    hP.dispUpdate (by simp [Displays]) _
      (hP.write (.tgt _) _ (.inr rfl) (hP.write (.cur (some _)) _ (.inr (.inr rfl)) ht))

theorem constructBody (hP : Keeps P .construct) (h : P s) : P (constructBody s).st := by
  unfold Machine.constructBody
  split
  · exact hP.fault _ _ h
  · exact hP.fault _ _ h
  · exact Run.bind_keeps (hP.sgSetMode (.inr rfl) _ (hP.write .initRegisters _ rfl h)) fun _ _ ht =>
      Run.bind_keeps (hP.dispUpdate (by simp [Displays]) _ ht) fun _ _ hu => hP.write .openForeground _ rfl hu

/-- An operation keeps every predicate that passing time, a fault and its own writes keep. -/
theorem exec (hP : Keeps P i) (he : exec i s = .next t) (h : P s) : P t := by
  cases i <;> simp only [Machine.exec] at he
  case tick =>
    obtain ⟨-, rfl⟩ := runIf_next.1 he
    exact hP.tickBody h
  case encEdge =>
    obtain ⟨-, rfl⟩ := runIf_next.1 he
    exact hP.encEdgeBody h
  case homeEdge =>
    obtain ⟨-, rfl⟩ := runIf_next.1 he
    exact hP.homeEdgeBody h
  case limitEdge =>
    unfold execLimitEdge at he
    split at he
    · obtain ⟨-, rfl⟩ := runIf_next.1 he
      exact hP.limitEdgeBody h
    · cases he
  case qdUpdate =>
    obtain ⟨-, rfl⟩ := runIf_next.1 he
    exact Run.bind_keeps (hP.qdUpdate (.inl rfl) h) fun r _ ht => hP.write (.reply (some r)) _ rfl ht
  case sgDisable =>
    obtain ⟨-, rfl⟩ := runIf_next.1 he
    exact hP.sgDisable (.inr (.inr rfl)) h
  case sgEnable =>
    obtain ⟨-, rfl⟩ := runIf_next.1 he
    exact hP.sgEnable (.inr (.inl rfl)) h
  case sgRotate d steps =>
    obtain ⟨-, rfl⟩ := runIf_next.1 he
    exact hP.sgRotate (.inr (.inr ⟨d, steps, rfl⟩)) d steps h
  case sgSetMode m =>
    unfold execSgSetMode at he
    split at he
    · obtain ⟨-, rfl⟩ := runIf_next.1 he
      exact hP.sgSetMode (.inl ⟨m, rfl⟩) _ h
    · cases he
  case dispWelcome =>
    obtain ⟨-, rfl⟩ := runIf_next.1 he
    exact hP.dispUpdate (by simp [Displays]) _ h
  case dispCalibrating =>
    obtain ⟨-, rfl⟩ := runIf_next.1 he
    exact hP.dispUpdate (by simp [Displays]) _ h
  case dispHeight mm =>
    unfold execDispHeight at he
    split at he
    · obtain ⟨-, rfl⟩ := runIf_next.1 he
      exact hP.dispUpdate (by simp [Displays]) _ h
    · cases he
  case csEnter =>
    obtain ⟨-, rfl⟩ := runIf_next.1 he
    exact hP.write (.masked true) _ (.inl rfl) h
  case csExit =>
    obtain ⟨-, rfl⟩ := runIf_next.1 he
    exact hP.write (.masked false) _ (.inr rfl) h
  case construct =>
    obtain ⟨-, rfl⟩ := runIf_next.1 he
    exact hP.constructBody h

end Keeps

/-- A register that passing time, a fault and the operation's own writes leave is after the operation what it was. -/
theorem exec_frame {β : Type} (g : State → β) (hp : ∀ s, g s.pass = g s) (hf : ∀ s f, g (s.takeFault f) = g s)
    (hw : ∀ (w : Write) s, w.Within i → g (w.apply s) = g s) (he : exec i s = .next t) : g t = g s := by
  have hP : Keeps (fun u => g u = g s) i :=
    ⟨fun u h => (hp u).trans h, fun u f h => (hf u f).trans h, fun w u hu h => (hw w u hu).trans h⟩
  exact hP.exec he rfl

end Sys2Proof.Machine
end

section
/-! PROOFS. The frames of the registers and the growth of the history (10_state.md): O50 to O54. -/

namespace Sys2Proof.Machine

open Sys2Proof

variable {i : Instr} {s t : State}

/-! ### The frame of each register -/

theorem exec_cfg (he : exec i s = .next t) : t.cfg = s.cfg :=
  exec_frame State.cfg (fun _ => rfl) (fun _ _ => rfl) (fun w u _ => by cases w <;> simp [Write.apply]) he

theorem exec_port (he : exec i s = .next t) : t.port = s.port :=
  exec_frame State.port (fun _ => rfl) (fun _ _ => rfl) (fun w u _ => by cases w <;> simp [Write.apply]) he

theorem exec_maxh (he : exec i s = .next t) (hc : i ≠ .construct) : t.maxh = s.maxh := by
  refine exec_frame State.maxh (fun _ => rfl) (fun _ _ => rfl) (fun w u hw => ?_) he
  cases w with
  | initRegisters => exact absurd hw hc
  | _ => simp [Write.apply]

theorem exec_tgt (he : exec i s = .next t) (h1 : i ≠ .encEdge) (h2 : i ≠ .limitEdge) (hc : i ≠ .construct) :
    t.tgt = s.tgt := by
  refine exec_frame State.tgt (fun _ => rfl) (fun _ _ => rfl) (fun w u hw => ?_) he
  cases w with
  | tgt v => exact absurd hw (not_or.2 ⟨h1, h2⟩)
  | initRegisters => exact absurd hw hc
  | _ => simp [Write.apply]

theorem exec_cur (he : exec i s = .next t) (h1 : i ≠ .tick) (h2 : i ≠ .homeEdge) (h3 : i ≠ .limitEdge)
    (hc : i ≠ .construct) : t.cur = s.cur := by
  refine exec_frame State.cur (fun _ => rfl) (fun _ _ => rfl) (fun w u hw => ?_) he
  cases w with
  | cur v => exact absurd hw (by simp [Write.Within, h1, h2, h3])
  | initRegisters => exact absurd hw hc
  | _ => simp [Write.apply]

theorem exec_cooldown (he : exec i s = .next t) (h : ¬TimesCooldown i) (hc : i ≠ .construct) :
    t.cd = s.cd ∧ t.cdV = s.cdV := by
  have hpair : (t.cd, t.cdV) = (s.cd, s.cdV) := by
    refine exec_frame (fun u => (u.cd, u.cdV)) (fun _ => rfl) (fun _ _ => rfl) (fun w u hw => ?_) he
    cases w with
    | cd v => exact absurd hw h
    | cdV v => exact absurd hw h
    | initRegisters => exact absurd hw hc
    | _ => simp [Write.apply]
  exact Prod.mk.inj hpair

theorem exec_qdPend (he : exec i s = .next t) (h : ¬Decodes i) (hc : i ≠ .construct) : t.qdPend = s.qdPend := by
  refine exec_frame State.qdPend (fun _ => rfl) (fun _ _ => rfl) (fun w u hw => ?_) he
  cases w with
  | qdPend r => exact absurd hw h
  | initRegisters => exact absurd hw hc
  | _ => simp [Write.apply]

theorem exec_sgEn (he : exec i s = .next t) (h : ¬Drives i) (hc : i ≠ .construct) : t.sgEn = s.sgEn := by
  refine exec_frame State.sgEn (fun _ => rfl) (fun _ _ => rfl) (fun w u hw => ?_) he
  cases w with
  | sgEn b => exact absurd hw h
  | initRegisters => exact absurd hw hc
  | _ => simp [Write.apply]

theorem exec_stepDir (he : exec i s = .next t) (h : ¬Rotates i) : t.oStep = s.oStep ∧ t.oDir = s.oDir := by
  have hpair : (t.oStep, t.oDir) = (s.oStep, s.oDir) := by
    refine exec_frame (fun u => (u.oStep, u.oDir)) (fun _ => rfl) (fun _ _ => rfl) (fun w u hw => ?_) he
    cases w with
    | line p b =>
      cases p with
      | step | dir => exact absurd hw h
      | enN | ms1 | ms2 | ms3 => rfl
    | _ => simp [Write.apply]
  exact Prod.mk.inj hpair

theorem exec_oEnN (he : exec i s = .next t) (h : ¬Drives i) : t.oEnN = s.oEnN := by
  refine exec_frame State.oEnN (fun _ => rfl) (fun _ _ => rfl) (fun w u hw => ?_) he
  cases w with
  | line p b =>
    cases p with
    | enN => exact absurd hw h
    | step | dir | ms1 | ms2 | ms3 => rfl
  | _ => simp [Write.apply]

theorem exec_oMs (he : exec i s = .next t) (h : ¬SetsMode i) : t.oMs = s.oMs := by
  refine exec_frame State.oMs (fun _ => rfl) (fun _ _ => rfl) (fun w u hw => ?_) he
  cases w with
  | line p b =>
    cases p with
    | ms1 | ms2 | ms3 => exact absurd hw h
    | step | dir | enN => rfl
  | _ => simp [Write.apply]

theorem exec_disp (he : exec i s = .next t) (h : ¬Displays i) : t.disp = s.disp := by
  refine exec_frame State.disp (fun _ => rfl) (fun _ _ => rfl) (fun w u hw => ?_) he
  cases w with
  | frame f => exact absurd hw h
  | _ => simp [Write.apply]

theorem exec_masked (he : exec i s = .next t) (h1 : i ≠ .csEnter) (h2 : i ≠ .csExit) (hc : i ≠ .construct) :
    t.masked = s.masked := by
  refine exec_frame State.masked (fun _ => rfl) (fun _ _ => rfl) (fun w u hw => ?_) he
  cases w with
  | masked b => exact absurd hw (not_or.2 ⟨h1, h2⟩)
  | openForeground => exact absurd hw hc
  | _ => simp [Write.apply]

theorem exec_reply (he : exec i s = .next t) (h : i ≠ .qdUpdate) : t.reply = s.reply := by
  refine exec_frame State.reply (fun _ => rfl) (fun _ _ => rfl) (fun w u hw => ?_) he
  cases w with
  | reply v => exact absurd hw h
  | _ => simp [Write.apply]

/-! ### Context and fault latch (R28, R30, R203) -/

/-- No write but the last of CONSTRUCT touches the context. -/
theorem Write.apply_ctx {w : Write} (hw : w.Within i) (hc : i ≠ .construct) (u : State) : (w.apply u).ctx = u.ctx := by
  cases w with
  | openForeground => exact absurd hw hc
  | _ => simp [Write.apply]

/-- No write touches the fault latch. -/
theorem Write.apply_fault (w : Write) (u : State) : (w.apply u).fault = u.fault := by
  cases w <;> simp [Write.apply]

theorem exec_ctx (he : exec i s = .next t) (hc : i ≠ .construct) : t.ctx = s.ctx ∨ t.ctx = .halted := by
  have hP : Keeps (fun u => u.ctx = s.ctx ∨ u.ctx = .halted) i :=
    { pass := fun _ h => h
      fault := fun _ _ _ => .inr rfl
      write := fun w u hw h => by rwa [w.apply_ctx hw hc] }
  exact hP.exec he (.inl rfl)

/-- The end of CONSTRUCT, from its display write on, leaves the fault latch unless it halts the block. -/
theorem welcome_open_fault (u : State)
    (h : ((dispUpdate .welcome u).bind fun _ v => .ret () v.openForeground).st.ctx ≠ .halted) :
    ((dispUpdate .welcome u).bind fun _ v => .ret () v.openForeground).st.fault = u.fault := by
  unfold dispUpdate at h ⊢
  cases hg : u.granted with
  | true => rw [dispWrite_granted _ hg]; rfl
  | false =>
    rw [dispWrite_failed _ hg] at h
    exact absurd rfl h

/-- CONSTRUCT leaves the fault latch unless it halts the block (R182, R203). -/
theorem constructBody_fault (s : State) (h : (constructBody s).st.ctx ≠ .halted) :
    (constructBody s).st.fault = s.fault := by
  unfold constructBody at h ⊢
  split at h
  · exact absurd rfl h
  · exact absurd rfl h
  · rename_i m _ _
    rcases sgSetMode_cases m s.initRegisters with ⟨-, hm⟩ | ⟨k, -, -, -, hm⟩
    · rw [hm, Run.ret_bind] at h ⊢
      rw [welcome_open_fault _ h]
      simp [State.modeDriven]
    · rw [hm] at h
      exact absurd rfl h

theorem exec_fault (he : exec i s = .next t) (h : t.ctx ≠ .halted) : t.fault = s.fault := by
  by_cases hc : i = .construct
  · subst hc
    obtain ⟨-, rfl⟩ := runIf_next.1 he
    exact constructBody_fault s h
  · have hP : Keeps (fun u => u.ctx ≠ .halted → u.fault = s.fault) i :=
      { pass := fun _ h => h
        fault := fun _ _ _ hx => absurd rfl hx
        write := fun w u hw hu hx => by rw [w.apply_fault, hu (by rwa [w.apply_ctx hw hc] at hx)] }
    exact hP.exec he (fun _ => rfl) h

/-! ### The pending latches (R211) -/

/-- A transition sets a latch or leaves the latches. -/
theorem latchEdge_keeps (c : Cfg) {ip : BitVec 3} (m : PinMove) {n : Nat} (h : ip.getLsbD n = true) :
    (latchEdge c ip m).getLsbD n = true := by
  unfold latchEdge
  split
  · simp [h]
  · exact h

theorem Pins.move_keeps (c : Cfg) (armed : Bool) {x : Pins} (m : PinMove) {n : Nat} (h : x.ip.getLsbD n = true) :
    (Pins.move c armed x m).ip.getLsbD n = true := by
  unfold Pins.move
  split
  · exact h
  · cases armed with
    | true => exact latchEdge_keeps c m h
    | false => exact h

theorem Pins.moves_keep (c : Cfg) (armed : Bool) (ms : List PinMove) {x : Pins} {n : Nat} (h : x.ip.getLsbD n = true) :
    (ms.foldl (Pins.move c armed) x).ip.getLsbD n = true := by
  induction ms generalizing x with
  | nil => exact h
  | cons m ms ih => exact ih (Pins.move_keeps c armed m h)

/-- Time passing clears no pending latch. -/
theorem State.pass_keeps_pending {n : Nat} (h : s.ip.getLsbD n = true) : s.pass.ip.getLsbD n = true :=
  Pins.moves_keep s.cfg s.armed s.instant.moves h

theorem exec_keeps_pending (he : exec i s = .next t) (hc : i ≠ .construct) {n : Nat} (h : s.ip.getLsbD n = true) :
    t.ip.getLsbD n = true := by
  have hP : Keeps (fun u => u.ip.getLsbD n = true) i :=
    { pass := fun _ hu => State.pass_keeps_pending hu
      fault := fun _ _ hu => hu
      write := fun w u hw hu => by
        cases w with
        | openForeground => exact absurd hw hc
        | _ => simpa [Write.apply] using hu }
  exact hP.exec he h

/-! ### The history (R37) -/

/-- A write appends its event, if it has one, to the history. -/
theorem Write.apply_hist (w : Write) (u : State) : ∃ events, (w.apply u).hist = u.hist ++ events := by
  cases w with
  | line p b => exact ⟨[.pin p b], by simp [Write.apply]⟩
  | frame f => exact ⟨[.disp (shownFrame f)], rfl⟩
  | _ => exact ⟨[], by simp [Write.apply]⟩

theorem exec_hist (he : exec i s = .next t) : ∃ events, t.hist = s.hist ++ events := by
  have hP : Keeps (fun u => ∃ events, u.hist = s.hist ++ events) i :=
    { pass := fun _ h => h
      fault := fun _ _ h => h
      write := fun w u _ ⟨events, hu⟩ => by
        obtain ⟨more, hw⟩ := w.apply_hist u
        exact ⟨events ++ more, by rw [hw, hu, List.append_assoc]⟩ }
  exact hP.exec he ⟨[], (List.append_nil _).symm⟩

/-! ### Around the operation: presenting a request and the entries and returns of R104 -/

/-- A register that the port does not hold is untouched by presenting a request. -/
theorem State.presented_keeps {β : Type} (g : State → β) (hq : ∀ s l, g (s.setPort l) = g s) (s : State) :
    g s.presented = g s := by
  unfold State.presented
  split
  · unfold State.present
    split <;> try exact hq _ _
    · unfold State.presentNext
      split <;> exact hq _ _
  · rfl

/-- An entry or a return writes the pending latches, the mask and the context alone. -/
theorem State.accompany_keeps {β : Type} (g : State → β) (hi : ∀ s v, g (s.setIp v) = g s)
    (hm : ∀ s b, g (s.setMasked b) = g s) (hx : ∀ s c, g (s.setCtx c) = g s) (i : Instr) (t : State) :
    g (t.accompany i) = g t := by
  by_cases h1 : i = .csEnter
  · subst h1
    show g t.afterEnter = g t
    rcases t.afterEnter_cases with h | ⟨-, ⟨-, h⟩ | ⟨n, -, h⟩⟩
    · rw [h]
    · rw [h, beginTick, hx, hm]
    · rw [h, enterHandler, clearPending, hx, hm, hi]
  · by_cases h2 : i = .csExit
    · subst h2
      show g t.afterExit = g t
      rcases t.afterExit_cases with ⟨-, h⟩ | ⟨-, h⟩
      · rw [h, leaveBody, hx, hm]
      · rw [h]
    · rw [State.accompany_other h1 h2]

/-- On the configuration and the history, a step does what the operation it runs does. -/
theorem step_runs (h : step s = .next t) :
    ∃ i u v, exec i u = .next v ∧ u.cfg = s.cfg ∧ t.cfg = v.cfg ∧ u.hist = s.hist ∧ t.hist = v.hist := by
  obtain ⟨i, rest, v, -, he, rfl⟩ := step_next h
  refine ⟨i, _, v, he, ?_, ?_, ?_, ?_⟩
  · exact State.presented_keeps State.cfg (fun _ _ => rfl) s
  · rw [State.settled_cfg]
    exact State.accompany_keeps State.cfg (fun _ _ => rfl) (fun _ _ => rfl) (fun _ _ => rfl) i v
  · exact State.presented_keeps State.hist (fun _ _ => rfl) s
  · rw [State.settled_hist]
    exact State.accompany_keeps State.hist (fun _ _ => rfl) (fun _ _ => rfl) (fun _ _ => rfl) i v

/-! ### The statements -/

/-- Settles O50: no write of an operation touches the configuration, and `MAXH` is written with the first registers of
CONSTRUCT. -/
theorem configurationIsNeverWritten : Obligations.ConfigurationIsNeverWritten := by
  refine ⟨fun s t h => ?_, fun i s t he => ⟨exec_cfg he, exec_maxh he⟩⟩
  obtain ⟨i, u, v, he, hu, ht, -, -⟩ := step_runs h
  rw [ht, exec_cfg he, hu]

/-- Settles O51: the step adds to the history what its operation adds. -/
theorem historyOnlyGrows : Obligations.HistoryOnlyGrows := by
  intro s t h
  obtain ⟨i, u, v, he, -, -, hu, ht⟩ := step_runs h
  obtain ⟨events, hv⟩ := exec_hist he
  exact ⟨events, by rw [ht, hv, hu]⟩

/-- Settles O52, register by register. -/
theorem dataRegisterFrames : Obligations.DataRegisterFrames := by
  intro i s t he
  refine ⟨exec_tgt he, exec_cur he, fun h1 h2 => exec_cooldown he (not_or.2 ⟨h1, h2⟩),
    fun h1 h2 => exec_qdPend he (not_or.2 ⟨h1, h2⟩), fun h1 h2 h3 h4 h5 => exec_sgEn he ?_⟩
  simp [Drives, Rotates, h1, h2, h3, h4, h5]

/-- Settles O53, latch by latch. -/
theorem outputLatchFrames : Obligations.OutputLatchFrames := by
  intro i s t he
  refine ⟨fun h1 h2 h3 => exec_stepDir he ?_, fun h1 h2 h3 h4 h5 => exec_oEnN he ?_,
    fun h1 h2 => exec_oMs he ?_, fun h1 h2 h3 h4 h5 h6 h7 h8 => exec_disp he ?_⟩
  · simp [Rotates, h1, h2, h3]
  · simp [Drives, Rotates, h1, h2, h3, h4, h5]
  · simp [SetsMode, h1, h2]
  · simp [Displays, h1, h2, h3, h4, h5, h6, h7, h8]

/-- Settles O54, register by register. -/
theorem controlRegisterFrames : Obligations.ControlRegisterFrames :=
  fun _ _ _ he => ⟨exec_masked he, exec_ctx he, exec_fault he, fun hc _ => exec_keeps_pending he hc, exec_port he,
    exec_reply he⟩

end Sys2Proof.Machine
end

section
/-! PROOFS. The motion a Tracking TICK records (42_height_controller.md R152, R162 (b)): O24. -/

namespace Sys2Proof.Machine

open Sys2Proof

variable {s t : State}

/-! ### The pulses of a train (R37, R135) -/

/-- From STEP low, every pulse of a train counts, in the direction and with the driver that the lines give. -/
theorem pulses_pulseEvents (n : Nat) {l : Lines} (hl : l.step = false) (es : List OutEvent) :
    pulses l (pulseEvents n ++ es) = List.replicate n { dir := l.dir, effective := !l.enN } ++ pulses l es := by
  induction n with
  | zero => rfl
  | succ n ih =>
    obtain ⟨step, dir, enN⟩ := l
    obtain rfl : step = false := hl
    rw [pulseEvents, List.cons_append, List.cons_append, List.replicate_succ, List.cons_append, ← ih]
    rfl

/-- From STEP low, flag and enable line agreeing, a whole SG.ROTATE makes `steps` effective pulses in its direction. -/
theorem pulses_rotateEvents {l : Lines} {enabled : Bool} (hl : l.step = false) (he : enabled = !l.enN) (d : Bool)
    (n : Nat) : pulses l (rotateEvents enabled d n) = List.replicate n { dir := d, effective := true } := by
  obtain ⟨step, dir, enN⟩ := l
  obtain rfl : step = false := hl
  subst he
  cases enN with
  | false =>
    have h := pulses_pulseEvents n (l := ⟨false, d, false⟩) rfl []
    simpa [rotateEvents, pulses, Lines.isPulse, Lines.after] using h
  | true =>
    have h := pulses_pulseEvents n (l := ⟨false, d, false⟩) rfl [.pin .enN true]
    simpa [rotateEvents, pulses, Lines.isPulse, Lines.after] using h

/-- Effective pulses in one direction move the motor by their number. -/
theorem displacement_replicate (dirHome d : Bool) (n : Nat) :
    displacement dirHome (List.replicate n { dir := d, effective := true }) = if d = dirHome then -(n : Int) else n := by
  induction n with
  | zero => simp [displacement]
  | succ n ih =>
    rw [List.replicate_succ, displacement, ih, if_pos rfl]
    split <;> omega

/-! ### The step count (R152) -/

theorem absDiff_toNat {c t : Word} (h : c ≤ t) : (absDiff c t).toNat = t.toNat - c.toNat := by
  unfold absDiff
  split <;> bv_omega

theorem absDiff_comm (c t : Word) : absDiff c t = absDiff t c := by
  unfold absDiff
  split <;> split <;> bv_omega

theorem stepCount_comm (spt c t : Word) : stepCount spt c t = stepCount spt t c := by
  simp only [stepCount, absDiff_comm]

/-- The step count reaches at most from the lower height to the higher. -/
theorem add_stepCount_le {spt c t : Word} (h : c ≤ t) : c.toNat + (stepCount spt c t).toNat ≤ t.toNat := by
  have hd := absDiff_toNat h
  unfold stepCount
  split <;> bv_omega

/-! ### A Tracking TICK -/

/-- The cooldown test touches nothing that a move reads or records. -/
theorem CooldownStep.frame {s' : State} {b : Bool} (h : CooldownStep s s' b) :
    s'.cur = s.cur ∧ s'.tgt = s.tgt ∧ s'.cfg = s.cfg ∧ s'.sgEn = s.sgEn ∧ s'.lines = s.lines ∧ s'.hist = s.hist := by
  cases h <;> exact ⟨rfl, rfl, rfl, rfl, rfl, rfl⟩

/-- A Tracking TICK is the cooldown test alone, or the test and then the move (R157). -/
theorem tickBody_tracking {c : Word} (hcur : s.cur = some c) :
    ∃ s' b, CooldownStep s s' b ∧ (tickBody s = .ret () s' ∨ tickBody s = tickMove c s') := by
  obtain ⟨s', b, hstep, heq⟩ := cooldownTest_ret s
  obtain ⟨hcur', -⟩ := hstep.frame
  refine ⟨s', b, hstep, ?_⟩
  rw [tickBody, heq, Run.ret_bind, hcur', hcur]
  by_cases h : c ≠ s'.tgt ∧ b = false
  · exact .inr (if_pos h)
  · exact .inl (if_neg h)

/-- A move that does not halt is one whole SG.ROTATE, and the height takes the sum or the difference of exactly its
steps, which does not wrap (R152, R157). -/
theorem tickMove_completes {c : Word} (h : (tickMove c s).st.ctx ≠ .halted) :
    ∃ (d : Bool) (n : Nat) (c' : Word), (tickMove c s).st = (s.rotated d n).setCur (some c') ∧
      (c'.toNat : Int) - c.toNat = if d = s.cfg.dirHome then -(n : Int) else n := by
  unfold tickMove at h ⊢
  split at h
  case isTrue hlt =>
    rw [if_pos hlt]
    rcases sgRotate_cases (awayFromHome s.cfg) (stepCount s.cfg.spt c s.tgt) s with ⟨-, hr⟩ | ⟨_, _, -, -, -, -, hr⟩
    · refine ⟨_, _, _, by rw [hr]; rfl, ?_⟩
      have hle := add_stepCount_le (spt := s.cfg.spt) (BitVec.le_of_lt hlt)
      rw [if_neg (by simp [awayFromHome]), BitVec.toNat_add_of_lt (by omega)]
      omega
    · rw [hr] at h
      exact absurd rfl h
  case isFalse hlt =>
    rw [if_neg hlt]
    rcases sgRotate_cases s.cfg.dirHome (stepCount s.cfg.spt c s.tgt) s with ⟨-, hr⟩ | ⟨_, _, -, -, -, -, hr⟩
    · refine ⟨_, _, _, by rw [hr]; rfl, ?_⟩
      have hle := add_stepCount_le (spt := s.cfg.spt) (BitVec.not_lt.1 hlt)
      rw [stepCount_comm] at hle
      rw [if_pos rfl, BitVec.toNat_sub_of_le (by bv_omega)]
      omega
    · rw [hr] at h
      exact absurd rfl h

/-- Settles O24: with the move suppressed or the target reached there is no event; otherwise the events are those of one
whole SG.ROTATE, all of whose pulses are effective. -/
theorem tickRecordsTheMotion : Obligations.TickRecordsTheMotion := by
  intro s t c he hcur hstep hen hx
  obtain ⟨-, rfl⟩ := runIf_next.1 he
  obtain ⟨s', b, hcd, hidle | hmove⟩ := tickBody_tracking hcur
  · obtain ⟨hcur', -, -, -, -, hhist⟩ := hcd.frame
    exact ⟨[], c, by simp [hidle, hhist], by simp [hidle, hcur', hcur], by simp [pulses, displacement]⟩
  · obtain ⟨-, -, hcfg, hsg, hlines, hhist⟩ := hcd.frame
    rw [hmove] at hx ⊢
    obtain ⟨d, n, c', ht, hdist⟩ := tickMove_completes hx
    refine ⟨rotateEvents s.sgEn d n, c', ?_, by rw [ht]; rfl, ?_⟩
    · rw [ht, ← hhist, ← hsg]
      rfl
    · rw [hdist, pulses_rotateEvents (l := s.lines) hstep hen, displacement_replicate, hcfg]

end Sys2Proof.Machine
end

section
/-! PROOFS. The environment at the end of a step (20_memory.md R73, 60_exceptions.md R211): O39. An instant that moves,
for each wanted source, the pin of that source to a level its selector selects sets exactly the wanted latches. -/

namespace Sys2Proof.Machine

open Sys2Proof

variable {c : Cfg} {n m : Source} {x : BitVec 3} {s u : State}

/-! ### A move that sets the latch of a source (R210) -/

/-- A level the transition to which a selector selects. -/
def EdgeSel.selectedLevel : EdgeSel → Bool
  | .rising => true
  | .falling => false
  | .both => true

theorem selects_selectedLevel (e : EdgeSel) : selects e (EdgeSel.selectedLevel e) = true := by
  cases e <;> rfl

/-- A pin move that sets the latch of a source, if its pin is not at that level already. -/
def triggerMove (c : Cfg) : Source → PinMove
  | .enc => { pin := .encA, level := activeLevel c }
  | .home => { pin := .home, level := EdgeSel.selectedLevel c.homeEdgeSel }
  | .limit => { pin := .limit, level := EdgeSel.selectedLevel c.limitEdgeSel }

theorem triggerMove_pin_ne (h : m ≠ n) : (triggerMove c m).pin ≠ (triggerMove c n).pin := by
  cases m <;> cases n <;> simp_all [triggerMove]

/-- The source of a trigger senses it; LIMIT only with its sensor. -/
theorem sensedBy_triggerMove (h : n = .limit → c.hasLimit = true) :
    sensedBy c (triggerMove c n).pin (triggerMove c n).level = some n := by
  cases n with
  | enc => cases hq : c.qdPolicy <;> simp [triggerMove, sensedBy, hq]
  | home => simp [triggerMove, sensedBy, selects_selectedLevel]
  | limit => simp [triggerMove, sensedBy, selects_selectedLevel, h rfl]

theorem Levels.get_set_of_ne {p q : InPin} (h : q ≠ p) (l : Levels) (v : Bool) :
    Levels.get (Levels.set l p v) q = Levels.get l q := by
  cases p <;> cases q <;> simp_all [Levels.get, Levels.set]

/-- A transition that triggers a source sets its latch. -/
theorem Pins.move_trigger_ip {p : Pins} (hn : n = .limit → c.hasLimit = true)
    (hl : Levels.get p.levels (triggerMove c n).pin ≠ (triggerMove c n).level) :
    (Pins.move c true p (triggerMove c n)).ip = p.ip ||| Source.bit n := by
  simp [Pins.move, if_neg hl, latchEdge, sensedBy_triggerMove hn]

/-- The trigger of one source moves the pin of no other. -/
theorem Pins.move_trigger_level (h : m ≠ n) (p : Pins) (armed : Bool) :
    Levels.get (Pins.move c armed p (triggerMove c n)).levels (triggerMove c m).pin =
      Levels.get p.levels (triggerMove c m).pin := by
  unfold Pins.move
  split
  · rfl
  · exact Levels.get_set_of_ne (triggerMove_pin_ne h) _ _

/-- From levels opposite to theirs, the triggers of distinct sources set the latches of these sources. -/
theorem Pins.moves_trigger_ip {ns : List Source} {p : Pins} (hd : ns.Nodup)
    (hs : ∀ n ∈ ns, n = .limit → c.hasLimit = true)
    (hl : ∀ n ∈ ns, Levels.get p.levels (triggerMove c n).pin ≠ (triggerMove c n).level) :
    ((ns.map (triggerMove c)).foldl (Pins.move c true) p).ip = ns.foldl (fun ip n => ip ||| Source.bit n) p.ip := by
  induction ns generalizing p with
  | nil => rfl
  | cons n ns ih =>
    obtain ⟨hmem, hd⟩ := List.nodup_cons.1 hd
    obtain ⟨hsn, hs⟩ := List.forall_mem_cons.1 hs
    obtain ⟨hln, hl⟩ := List.forall_mem_cons.1 hl
    rw [List.map_cons, List.foldl_cons, List.foldl_cons, ← Pins.move_trigger_ip hsn hln]
    refine ih hd hs fun m hm => ?_
    rw [Pins.move_trigger_level (ne_of_mem_of_not_mem hm hmem)]
    exact hl m hm

/-! ### An environment that sets any wanted latches (R73) -/

/-- The sources whose bits a set of latches has. -/
def sourcesIn (x : BitVec 3) : List Source :=
  [Source.enc, .home, .limit].filter fun n => x.getLsbD (Source.index n)

theorem mem_sourcesIn : n ∈ sourcesIn x ↔ x.getLsbD (Source.index n) = true := by
  cases n <;> simp [sourcesIn]

theorem nodup_sourcesIn (x : BitVec 3) : (sourcesIn x).Nodup :=
  List.Nodup.filter _ (by decide)

theorem foldl_bit_sourcesIn (ip x : BitVec 3) :
    (sourcesIn x).foldl (fun ip n => ip ||| Source.bit n) ip = ip ||| x := by
  revert ip x
  decide

/-- The pins are opposite to the triggers, and the coming instant triggers the sources of `x`. -/
def triggeringEnv (c : Cfg) (x : BitVec 3) : Env where
  levels :=
    { a := !(triggerMove c .enc).level, b := false, home := !(triggerMove c .home).level,
      limit := !(triggerMove c .limit).level }
  now := 0#32
  script := [{ moves := (sourcesIn x).map (triggerMove c), advance := 0#32, answer := .ok, choice := 0 }]
  drawn := 0

/-- The state with this environment around it. -/
def State.withTriggers (s : State) (x : BitVec 3) : State :=
  { s with env := triggeringEnv s.cfg x }

theorem triggeringEnv_level (c : Cfg) (x : BitVec 3) (n : Source) :
    Levels.get (triggeringEnv c x).levels (triggerMove c n).pin ≠ (triggerMove c n).level := by
  cases n <;> exact Bool.not_ne_self _

/-- Outside RESET and HALTED time passing in this environment sets exactly the latches of `x`. -/
theorem State.pass_triggering_ip (henv : u.env = triggeringEnv u.cfg x) (ha : u.armed = true)
    (hx : u.cfg.hasLimit = false → x.getLsbD 2 = false) : u.pass.ip = u.ip ||| x := by
  have hmoves : u.instant.moves = (sourcesIn x).map (triggerMove u.cfg) := by
    rw [State.instant, henv]
    rfl
  have hs : ∀ n ∈ sourcesIn x, n = .limit → u.cfg.hasLimit = true := by
    rintro n hn rfl
    have hbit : x.getLsbD 2 = true := mem_sourcesIn.1 hn
    by_contra h
    rw [hx (Bool.eq_false_of_not_eq_true h)] at hbit
    cases hbit
  show u.movedPins.ip = u.ip ||| x
  rw [State.movedPins, hmoves, ha, henv,
    Pins.moves_trigger_ip (nodup_sourcesIn x) hs fun n _ => triggeringEnv_level u.cfg x n, foldl_bit_sourcesIn]

/-- The same at the end of a step. -/
theorem State.settled_triggering_ip (henv : u.env = triggeringEnv u.cfg x) (hr : u.ctx ≠ .reset) (hh : u.ctx ≠ .halted)
    (hx : u.cfg.hasLimit = false → x.getLsbD 2 = false) : u.settled.ip = u.ip ||| x := by
  rw [State.settled_of_running hh]
  exact State.pass_triggering_ip henv (by simp [State.armed, hr, hh]) hx

/-! ### Two operations that make no access -/

/-- A step serves the request that stands on the port. -/
theorem step_of_request {i : Instr} {rest : List Byte} (hd : decode s.port = .op i rest) :
    step s = accompanied i (exec i (s.setPort rest)) := by
  have hp : s.port ≠ [] := fun h => by rw [h] at hd; cases hd
  rw [step_of_port hp, serve, hd]

/-- Under TickCounter a TICK at the target counts the cooldown and does nothing else (R156, R162 (a)). -/
theorem exec_tick_at_target (hm : s.masked = true) (hc : s.ctx = .fgTick) (hd : s.cfg.deb = .tickCounter)
    (ht : s.cur = some s.tgt) : ∃ v, exec .tick s = .next (s.setCd v) := by
  obtain ⟨s', b, hstep, heq⟩ := cooldownTest_ret s
  have hidle : tickBody s = .ret () s' := by
    obtain ⟨hcur, htgt, -⟩ := hstep.frame
    rw [tickBody, heq, Run.ret_bind, hcur, ht, htgt]
    exact if_neg fun h => h.1 rfl
  have hs' : ∃ v, s' = s.setCd v := by
    cases hstep with
    | counted => exact ⟨_, rfl⟩
    | idleCounter => exact ⟨s.cd, rfl⟩
    | idleClock h | expired h | open_ h => simp [hd] at h
  obtain ⟨v, rfl⟩ := hs'
  exact ⟨v, by rw [exec, execTick, runIf_legal ((s.inBody_iff _).2 ⟨hm, hc⟩), hidle, Run.ret_st]⟩

/-- CS.EXIT in a body, with what goes with it, is the return or the end of tick (R104, R181). -/
theorem accompanied_csExit_in_body (hm : s.masked = true) (hb : s.ctx.isBody = true) :
    accompanied .csExit (exec .csExit s) = .next s.leaveBody.settled := by
  have hh : s.ctx ≠ .halted := fun h => by simp [h, Ctx.isBody] at hb
  have he : exec .csExit s = .next (s.setMasked false) := by
    rw [exec, execCsExit, runIf_legal (by simp [hm, hh]), Run.ret_st]
  have hx : (s.setMasked false).afterExit = s.leaveBody := if_pos hb
  rw [he, accompanied, State.accompany, hx]

/-! ### The statement -/

/-- Settles O39: the environment `triggeringEnv` serves all three moments, since neither a TICK at the target nor CS.EXIT
makes an access that would meet its instant before the end of the step. -/
theorem edgesPendByEndOfBody : Obligations.EdgesPendByEndOfBody := by
  refine fun s x hx => ⟨fun hr hh => ?_, fun hm hc hp hd ht => ?_, fun hm hb hp => ?_⟩
  · exact ⟨triggeringEnv s.cfg x, State.settled_triggering_ip (u := s.withTriggers x) rfl hr hh hx⟩
  · obtain ⟨v, he⟩ := exec_tick_at_target (s := (s.withTriggers x).setPort [0x41#8]) hm hc hd ht
    have hstep : step (s.withTriggers x) = .next (((s.withTriggers x).setPort [0x41#8]).setCd v).settled := by
      rw [step_of_request (s := s.withTriggers x) (congrArg decode hp), he]
      rfl
    have hctx : (((s.withTriggers x).setPort [0x41#8]).setCd v).ctx = .fgTick := hc
    refine ⟨triggeringEnv s.cfg x, _, hstep, ?_, ?_, ?_⟩
    · rw [State.settled_ctx, hctx]
    · rw [State.settled_port, hctx]
      rfl
    · exact State.settled_triggering_ip rfl (by rw [hctx]; decide) (by rw [hctx]; decide) hx
  · have hstep : step (s.withTriggers x) = .next ((s.withTriggers x).setPort []).leaveBody.settled := by
      rw [step_of_request (s := s.withTriggers x) (congrArg decode hp)]
      exact accompanied_csExit_in_body hm hb
    refine ⟨triggeringEnv s.cfg x, _, hstep, ?_, ?_, ?_⟩
    · rw [State.settled_ctx, State.leaveBody_ctx]
    · rw [State.settled_masked, State.leaveBody_masked]
    · exact State.settled_triggering_ip rfl (by simp) (by simp) hx

end Sys2Proof.Machine
end

section
/-! PROOFS. The decoder and the encoder are inverse to each other, and the codes the decoder turns away are those of the
list (30_encoding.md R91 to R100, 20_memory.md R68): O1, O2, O4. -/

namespace Sys2Proof

variable {i : Instr} {op code : Byte} {mk : Word → Instr} {bytes rest : List Byte} {w : Word}

/-! ### The operand word (R68) -/

/-- A byte behind other bits counts 256 times less than these. -/
theorem toNat_append_byte {n : Nat} (x : BitVec n) (b : Byte) : (x ++ b).toNat = x.toNat * 256 + b.toNat := by
  rw [BitVec.toNat_append, ← Nat.shiftLeft_add_eq_or_of_lt b.isLt, Nat.shiftLeft_eq]

/-- The value of an operand word, its bytes least significant first. -/
theorem wordOfBytes_toNat (b0 b1 b2 b3 : Byte) :
    (wordOfBytes b0 b1 b2 b3).toNat = ((b3.toNat * 256 + b2.toNat) * 256 + b1.toNat) * 256 + b0.toNat := by
  rw [wordOfBytes, toNat_append_byte, toNat_append_byte, toNat_append_byte]

theorem bytesOfWord_wordOfBytes (b0 b1 b2 b3 : Byte) : bytesOfWord (wordOfBytes b0 b1 b2 b3) = [b0, b1, b2, b3] := by
  have hw := wordOfBytes_toNat b0 b1 b2 b3
  have h0 := b0.isLt
  have h1 := b1.isLt
  have h2 := b2.isLt
  generalize wordOfBytes b0 b1 b2 b3 = w at hw
  simp only [bytesOfWord, List.cons.injEq, and_true, ← BitVec.toNat_inj, BitVec.extractLsb'_toNat,
    Nat.shiftRight_eq_div_pow]
  omega

theorem wordOfBytes_bytesOfWord (w : Word) :
    wordOfBytes (w.extractLsb' 0 8) (w.extractLsb' 8 8) (w.extractLsb' 16 8) (w.extractLsb' 24 8) = w := by
  simp only [wordOfBytes, BitVec.extractLsb'_append_extractLsb'_eq_extractLsb', BitVec.extractLsb'_eq_self]

theorem decodeOperand_bytesOfWord (code : Byte) (mk : Word → Instr) (w : Word) (rest : List Byte) :
    decodeOperand code mk (bytesOfWord w ++ rest) = .op (mk w) rest := by
  show Decoded.op (mk (wordOfBytes _ _ _ _)) rest = _
  rw [wordOfBytes_bytesOfWord]

/-- An operand is read from four bytes, which are those of the word, or is cut short (R91). -/
theorem decodeOperand_cases (code : Byte) (mk : Word → Instr) (bytes : List Byte) :
    (∃ w rest, bytes = bytesOfWord w ++ rest ∧ decodeOperand code mk bytes = .op (mk w) rest) ∨
      decodeOperand code mk bytes = .incomplete code := by
  unfold decodeOperand
  split
  · rename_i b0 b1 b2 b3 rest
    exact .inl ⟨wordOfBytes b0 b1 b2 b3, rest, by rw [bytesOfWord_wordOfBytes]; rfl, rfl⟩
  · exact .inr rfl

/-! ### The two rows with an operand in the code (R92, R94, R97) -/

/-- The code of SG.ROTATE is its pattern with the direction in bit 0. -/
theorem rotateCode_eq : ∀ op : Byte, op.extractLsb' 1 7 = 0b0010001#7 →
    op = 0b0010001#7 ++ BitVec.ofBool (op.getLsbD 0) := by
  decide

/-- The code of SG.SET_MODE is its pattern with the mode in the bits 2 to 0. -/
theorem modeCode_eq : ∀ op : Byte, op.extractLsb' 3 5 = 0b00101#5 → op = 0b00101#5 ++ op.extractLsb' 0 3 := by
  decide

theorem rotateCode_iff : ∀ op : Byte, op.extractLsb' 1 7 = 0b0010001#7 ↔ 0x22 ≤ op.toNat ∧ op.toNat ≤ 0x23 := by
  decide

theorem modeCode_iff : ∀ op : Byte,
    (op.extractLsb' 3 5 = 0b00101#5 ∧ op.extractLsb' 0 3 ≤ 4#3) ↔ 0x28 ≤ op.toNat ∧ op.toNat ≤ 0x2C := by
  decide

/-! ### Every request is read back (R97) -/

theorem decode_encode_sgRotate (d : Bool) (steps : Word) (rest : List Byte) :
    decode (encode (.sgRotate d steps) ++ rest) = .op (.sgRotate d steps) rest := by
  cases d
  · exact decodeOperand_bytesOfWord 0x22#8 (.sgRotate false) steps rest
  · exact decodeOperand_bytesOfWord 0x23#8 (.sgRotate true) steps rest

theorem decode_encode_sgSetMode {m : BitVec 3} (hm : m ≤ 4#3) (rest : List Byte) :
    decode (encode (.sgSetMode m) ++ rest) = .op (.sgSetMode m) rest := by
  have hcases : m = 0#3 ∨ m = 1#3 ∨ m = 2#3 ∨ m = 3#3 ∨ m = 4#3 := by bv_omega
  rcases hcases with rfl | rfl | rfl | rfl | rfl <;> rfl

/-- A well-formed operation is read back from its request, whatever follows. -/
theorem decode_encode (hw : i.wellFormed = true) (rest : List Byte) : decode (encode i ++ rest) = .op i rest := by
  cases i with
  | sgRotate d steps => exact decode_encode_sgRotate d steps rest
  | sgSetMode m => exact decode_encode_sgSetMode (of_decide_eq_true hw) rest
  | dispHeight mm => exact decodeOperand_bytesOfWord 0x32#8 .dispHeight mm rest
  | _ => rfl

/-! ### Every code has one reading (R97, R100) -/

/-- The codes that R100 reserves. -/
abbrev ReservedCode (op : Byte) : Prop :=
  (0x04 ≤ op.toNat ∧ op.toNat ≤ 0x0F) ∨ (0x11 ≤ op.toNat ∧ op.toNat ≤ 0x1F) ∨ (0x24 ≤ op.toNat ∧ op.toNat ≤ 0x27) ∨
    (0x2D ≤ op.toNat ∧ op.toNat ≤ 0x2F) ∨ (0x33 ≤ op.toNat ∧ op.toNat ≤ 0x3F) ∨ 0x43 ≤ op.toNat

/-- What a code and the bytes behind it can be read as. -/
inductive Reading (op : Byte) (bytes : List Byte) : Decoded → Prop
  | op {i : Instr} {rest : List Byte} (hw : i.wellFormed = true) (hb : op :: bytes = encode i ++ rest)
      (hr : ¬ReservedCode op) : Reading op bytes (.op i rest)
  | incomplete (hr : ¬ReservedCode op) : Reading op bytes (.incomplete op)
  | reserved (hr : ReservedCode op) : Reading op bytes (.reserved op)

/-- A row of R97 whose code is a constant and has no operand. -/
theorem Reading.of_code (hop : op = code) (he : encode i = [code]) (hw : i.wellFormed = true)
    (hr : ¬ReservedCode code) : Reading op bytes (.op i bytes) := by
  subst hop
  exact .op hw (by rw [he]; rfl) hr

/-- A row of R97 whose operation has an operand word. -/
theorem Reading.of_operand (he : ∀ w, encode (mk w) = op :: bytesOfWord w) (hw : ∀ w, (mk w).wellFormed = true)
    (hr : ¬ReservedCode op) : Reading op bytes (decodeOperand op mk bytes) := by
  rcases decodeOperand_cases op mk bytes with ⟨w, rest, rfl, hd⟩ | hd <;> rw [hd]
  · exact .op (hw w) (by rw [he]; rfl) hr
  · exact .incomplete hr

/-- The rows of R97 in order, and behind them the reserved codes of R100. -/
theorem decode_reading (op : Byte) (bytes : List Byte) : Reading op bytes (decode (op :: bytes)) := by
  unfold decode
  refine iteInduction (fun h => .of_code h rfl rfl (by decide)) fun h00 => ?_
  refine iteInduction (fun h => .of_code h rfl rfl (by decide)) fun h01 => ?_
  refine iteInduction (fun h => .of_code h rfl rfl (by decide)) fun h02 => ?_
  refine iteInduction (fun h => .of_code h rfl rfl (by decide)) fun h03 => ?_
  refine iteInduction (fun h => .of_code h rfl rfl (by decide)) fun h10 => ?_
  refine iteInduction (fun h => .of_code h rfl rfl (by decide)) fun h20 => ?_
  refine iteInduction (fun h => .of_code h rfl rfl (by decide)) fun h21 => ?_
  refine iteInduction (fun h => .of_operand (fun w => congrArg (· :: _) (rotateCode_eq op h).symm) (fun _ => rfl)
    (by rw [rotateCode_iff] at h; omega)) fun hrotate => ?_
  refine iteInduction (fun h => .op (decide_eq_true h.2) (congrArg (· :: _) (modeCode_eq op h.1))
    (by rw [modeCode_iff] at h; omega)) fun hmode => ?_
  refine iteInduction (fun h => .of_code h rfl rfl (by decide)) fun h30 => ?_
  refine iteInduction (fun h => .of_code h rfl rfl (by decide)) fun h31 => ?_
  refine iteInduction (fun h => .of_operand (fun _ => by rw [h]; rfl) (fun _ => rfl) (by rw [h]; decide)) fun h32 => ?_
  refine iteInduction (fun h => .of_code h rfl rfl (by decide)) fun h40 => ?_
  refine iteInduction (fun h => .of_code h rfl rfl (by decide)) fun h41 => ?_
  refine iteInduction (fun h => .of_code h rfl rfl (by decide)) fun h42 => ?_
  rw [rotateCode_iff] at hrotate
  rw [modeCode_iff] at hmode
  exact .reserved (by bv_omega)

theorem decode_eq_op (h : decode bytes = .op i rest) : i.wellFormed = true ∧ bytes = encode i ++ rest := by
  cases bytes with
  | nil => cases h
  | cons op bytes =>
    have hread := decode_reading op bytes
    rw [h] at hread
    obtain ⟨hw, hb, -⟩ := hread
    exact ⟨hw, hb⟩

theorem decode_eq_reserved_iff (op : Byte) (bytes : List Byte) :
    decode (op :: bytes) = .reserved op ↔ ReservedCode op := by
  have hread := decode_reading op bytes
  generalize decode (op :: bytes) = d at hread
  cases hread with
  | op hw hb hr => simp [hr]
  | incomplete hr => simp [hr]
  | reserved hr => simp [hr]

/-! ### The statements -/

/-- Settles O1, constructor by constructor. -/
theorem decodeInvertsEncode : Obligations.DecodeInvertsEncode :=
  fun _ rest hw => decode_encode hw rest

/-- Settles O2, by the reading of each row of R97. -/
theorem decodedBytesAreTheEncoding : Obligations.DecodedBytesAreTheEncoding :=
  fun _ _ _ h => decode_eq_op h

/-- Settles O4: each of the six requests is the encoding of its operation. -/
theorem writtenRequestsDecode : Obligations.WrittenRequestsDecode :=
  ⟨decode_encode (i := .limitEdge) rfl [], decode_encode (i := .qdUpdate) rfl [],
    decode_encode (i := .sgRotate true 300#32) rfl [], decode_encode (i := .sgSetMode 3#3) rfl [],
    decode_encode (i := .dispHeight 45#32) rfl [], decode_encode (i := .csEnter) rfl [0x00#8, 0x41#8]⟩

end Sys2Proof
end

section
/-! PROOFS. What the block refuses (30_encoding.md R100, R101) and how a step runs what it does not refuse (R90, R104):
O3, O37, O45, O12. -/

namespace Sys2Proof.Machine

open Sys2Proof

variable {i : Instr} {op : Byte} {rest : List Byte} {s t : State}

/-! ### Reserved codes (R100) -/

/-- The step refuses a reserved code at the head of the port, whatever the context. -/
theorem step_of_reserved (hd : decode s.port = .reserved op) : step s = .refused (.reserved op) := by
  have hp : s.port ≠ [] := fun h => by rw [h] at hd; cases hd
  rw [step_of_port hp, serve, hd]

/-- The codes that the sequencer and the arbiter present: the bodies, CS.ENTER, CS.EXIT and CONSTRUCT. -/
def presentedCodes : List Byte :=
  [0x00#8, 0x01#8, 0x02#8, 0x03#8, 0x40#8, 0x41#8, 0x42#8]

theorem presentedCodes_not_reserved : ∀ op ∈ presentedCodes, ¬ReservedCode op := by
  decide

theorem bodyOp_mem_presentedCodes (n : Source) : Source.bodyOp n ∈ presentedCodes := by
  cases n <;> decide

theorem handleSequence_subset {body : Byte} (h : body ∈ presentedCodes) : handleSequence body ⊆ presentedCodes := by
  have h40 : 0x40#8 ∈ presentedCodes := by decide
  have h41 : 0x41#8 ∈ presentedCodes := by decide
  simp [handleSequence, h, h40, h41]

/-- Between bodies the sequence of one body is presented (R213, R217). -/
theorem State.presentNext_port (s : State) :
    ∃ body ∈ presentedCodes, s.presentNext.port = handleSequence body := by
  unfold State.presentNext
  split
  · exact ⟨_, bodyOp_mem_presentedCodes _, rfl⟩
  · exact ⟨0x00#8, by decide, rfl⟩

/-- The block's own requesters present something in every context but HALTED, and only these codes (R213, R217, R241). -/
theorem State.present_port (hx : s.ctx ≠ .halted) : s.present.port ≠ [] ∧ s.present.port ⊆ presentedCodes := by
  cases hc : s.ctx with
  | fgOpen =>
    have hnext : s.present = s.presentNext := by rw [State.present, hc]
    obtain ⟨body, hbody, hp⟩ := s.presentNext_port
    rw [hnext, hp]
    exact ⟨List.cons_ne_nil _ _, handleSequence_subset hbody⟩
  | reset | fgTick | hEnc | hHome | hLimit => simp [State.present, hc, presentedCodes]
  | halted => exact absurd hc hx

/-- LIMIT_EDGE does not exist without its sensor. -/
theorem exec_limitEdge_without_sensor (h : s.cfg.hasLimit = false) : exec .limitEdge s = .refused .noLimitSensor := by
  simp [exec, execLimitEdge, h]

/-- Settles O3: the codes from the rows of the decoder, the requesters from the seven codes that they present. -/
theorem reservedCodesAreRefused : Obligations.ReservedCodesAreRefused := by
  refine ⟨decode_eq_reserved_iff, fun s op rest hp hd => step_of_reserved (hp ▸ hd),
    fun s h => exec_limitEdge_without_sensor h, fun s hp hx => ?_⟩
  have hpresented : s.presented = s.present := by rw [State.presented, hp]
  obtain ⟨hne, hcodes⟩ := State.present_port hx
  rw [hpresented]
  refine ⟨hne, fun op rest hop hd => ?_⟩
  exact presentedCodes_not_reserved op (hcodes hop) ((decode_eq_reserved_iff op rest).1 hd)

/-! ### Operations illegal in context (R101) -/

/-- The `require` of each operation: the mask and the context it asks for (R101, R120, R157 to R160, R180 to R182). -/
def Instr.require (s : State) : Instr → Bool
  | .tick => s.inBody .fgTick
  | .encEdge => s.inBody .hEnc
  | .homeEdge => s.inBody .hHome
  | .limitEdge => s.inBody .hLimit
  | .qdUpdate => s.inBody .hEnc
  | .csEnter => !s.masked && s.ctx != .halted
  | .csExit => s.masked && s.ctx != .halted
  | .construct => s.masked && s.ctx == .reset
  | .sgDisable | .sgEnable | .sgRotate _ _ | .sgSetMode _ | .dispWelcome | .dispCalibrating | .dispHeight _ => s.canCall

/-- Every operation is a run under its `require`; LIMIT_EDGE without its sensor, a reserved mode code and a height of
three digits are refused whatever the context. -/
theorem exec_eq_runIf_or_refused (i : Instr) (s : State) :
    (∃ r : Run Unit, exec i s = runIf (Instr.require s i) r) ∨ ∃ q, exec i s = .refused q := by
  cases i with
  | limitEdge =>
    rw [exec, execLimitEdge]
    split
    · exact .inl ⟨_, rfl⟩
    · exact .inr ⟨_, rfl⟩
  | sgSetMode m =>
    rw [exec, execSgSetMode]
    split
    · exact .inl ⟨_, rfl⟩
    · exact .inr ⟨_, rfl⟩
  | dispHeight mm =>
    rw [exec, execDispHeight]
    split
    · exact .inl ⟨_, rfl⟩
    · exact .inr ⟨_, rfl⟩
  | _ => exact .inl ⟨_, rfl⟩

/-- An operation whose `require` is false is refused. -/
theorem exec_refused_of_require (h : Instr.require s i = false) : ∃ r, exec i s = .refused r := by
  rcases exec_eq_runIf_or_refused i s with ⟨r, he⟩ | hq
  · exact ⟨_, he.trans (runIf_refused h)⟩
  · exact hq

/-- No operation's `require` holds in HALTED. -/
theorem Instr.require_halted (h : s.ctx = .halted) (i : Instr) : Instr.require s i = false := by
  cases i <;> simp [Instr.require, State.inBody, State.canCall, Ctx.isBody, h]

theorem exec_halted_refused (h : s.ctx = .halted) (i : Instr) : ∃ r, exec i s = .refused r :=
  exec_refused_of_require (Instr.require_halted h i)

/-- A step passes on the refusal of the operation it has read. -/
theorem step_refused {r : Refusal} (hd : decode s.port = .op i rest) (he : exec i (s.setPort rest) = .refused r) :
    step s = .refused r := by
  rw [step_of_request hd, he]
  rfl

/-- Units 1 to 3 are called under the mask, and not from the foreground between iterations. -/
theorem State.canCall_false_of (h : s.masked = false ∨ s.ctx = .fgOpen) : s.canCall = false := by
  rcases h with h | h <;> simp [State.canCall, h, Ctx.isBody]

theorem State.inBody_hEnc_false_of (h : s.masked = false ∨ s.ctx = .fgOpen) : s.inBody .hEnc = false := by
  rcases h with h | h <;> simp [State.inBody, h]

/-- Settles O37: where the statement places an operation, its `require` is false. -/
theorem illegalInContextIsRefused : Obligations.IllegalInContextIsRefused := by
  refine fun s => ⟨fun hm i hi => exec_refused_of_require ?_, fun h => runIf_refused ((s.inBody_false _).2 h),
    fun h => ⟨runIf_refused ((s.inBody_false _).2 h), runIf_refused ((s.inBody_false _).2 h)⟩,
    fun h => runIf_refused ((s.inBody_false _).2 h),
    fun h => exec_refused_of_require ((s.inBody_false _).2 h), fun hm => exec_refused_of_require ?_,
    fun hm => exec_refused_of_require ?_, fun hx => exec_refused_of_require ?_,
    fun hx i hi => exec_refused_of_require ?_, exec_halted_refused, fun hx i rest hd => ?_⟩
  case refine_1 =>
    simp only [List.mem_cons, List.not_mem_nil, or_false] at hi
    rcases hi with rfl | rfl | rfl | rfl <;> simp [Instr.require, State.inBody, hm]
  case refine_2 => simp [Instr.require, hm]
  case refine_3 => simp [Instr.require, hm]
  case refine_4 => simp [Instr.require, hx]
  case refine_5 =>
    rcases hi with rfl | rfl | rfl | ⟨_, _, rfl⟩ | ⟨_, rfl⟩ | rfl | rfl | ⟨_, rfl⟩
    · exact State.inBody_hEnc_false_of hx
    all_goals exact State.canCall_false_of hx
  case refine_6 =>
    obtain ⟨r, he⟩ := exec_halted_refused (s := s.setPort rest) hx i
    exact ⟨r, step_refused hd he⟩

/-! ### The step runs the decoded operation (R90, R104) -/

/-- An operation runs or is refused; faults of the block are next states (R203). -/
theorem exec_ne_fault (i : Instr) (s : State) (f : Fault) : exec i s ≠ .fault f := by
  rcases exec_eq_runIf_or_refused i s with ⟨r, he⟩ | ⟨q, he⟩ <;> rw [he]
  · cases Instr.require s i <;> exact nofun
  · exact nofun

/-- A step goes on from the state its operation leaves with what the sequencer adds and the end of the step. -/
theorem step_runs_exec (hd : decode s.port = .op i rest) (he : exec i (s.setPort rest) = .next t) :
    step s = .next (t.accompany i).settled := by
  rw [step_of_request hd, he]
  rfl

/-- Settles O45: what accompanies a request is nothing but for CS.ENTER and CS.EXIT. -/
theorem stepRunsDecodedOperation : Obligations.StepRunsDecodedOperation := by
  refine ⟨fun s i rest hd => ⟨fun t he => ?_, fun r he => step_refused hd he, exec_ne_fault i _⟩,
    fun t h => State.settled_of_running h, fun t h => State.settled_of_halted h⟩
  have hstep := step_runs_exec hd he
  refine ⟨fun h1 h2 => ?_, fun hi => ?_, fun hi => ?_⟩
  · rwa [State.accompany_other h1 h2] at hstep
  · subst hi; exact hstep
  · subst hi; exact hstep

/-! ### The default mode table (R94, R131) -/

/-- With three lines and no table given, a mode has the levels of the default table. -/
theorem modeLevels_default {c : Cfg} (hn : c.nmode = 3#2) (ht : c.modeTable = none) (m : MicrostepMode) :
    modeLevels c m = tableLevels ModeTable.default3 m := by
  simp [modeLevels, hn, ht]

/-- Settles O12, mode by mode. -/
theorem defaultModeTable : Obligations.DefaultModeTable := fun _ hn ht =>
  ⟨modeLevels_default hn ht .full, modeLevels_default hn ht .half, modeLevels_default hn ht .quarter,
    modeLevels_default hn ht .eighth, modeLevels_default hn ht .sixteenth⟩

end Sys2Proof.Machine
end

section
/-! PROOFS. The faults an operation can raise (30_encoding.md R96, 60_exceptions.md R201): O36. Each part of a body is
given the codes it can raise once; the list of an operation is then that of its parts. -/

namespace Sys2Proof.Machine

open Sys2Proof

variable {α β : Type} {codes : List (BitVec 8)} {i : Instr} {s t : State}

/-! ### Runs that raise only listed faults -/

/-- The block runs and no fault is latched. -/
abbrev State.Clear (s : State) : Prop :=
  s.ctx ≠ .halted ∧ s.fault = 0x00#8

/-- A part of a body leaves the block running with no fault latched, or has halted it with one of the codes. -/
def Run.RaisesWithin (codes : List (BitVec 8)) (r : Run α) : Prop :=
  (r.val.isSome ∧ r.st.Clear) ∨ (r.val = none ∧ r.st.ctx = .halted ∧ r.st.fault ∈ codes)

/-- What a run of an operation leaves, as the statement says it. -/
theorem Run.RaisesWithin.outcome {r : Run α} (h : r.RaisesWithin codes) :
    (r.st.ctx ≠ .halted ∧ r.st.fault = 0x00#8) ∨ (r.st.ctx = .halted ∧ r.st.fault ∈ codes) := by
  rcases h with ⟨-, h⟩ | ⟨-, h⟩
  · exact .inl h
  · exact .inr h

theorem Run.raisesWithin_ret (a : α) (h : s.Clear) : (Run.ret a s).RaisesWithin codes :=
  .inl ⟨rfl, h⟩

/-- With no fault latched the latch takes the fault that is raised (R203). -/
theorem raise_raisesWithin {f : BlockFault} (h : s.Clear) (hf : BlockFault.latch f ∈ codes) :
    (raise f s : Run α).RaisesWithin codes := by
  obtain ⟨-, hfault⟩ := h
  refine .inr ⟨rfl, rfl, ?_⟩
  have hlatch : (s.takeFault f).fault = BlockFault.latch f := by
    simp [State.takeFault, State.faultValid, hfault]
  rwa [raise_st, hlatch]

theorem Run.RaisesWithin.bind {r : Run α} {f : α → State → Run β} (hr : r.RaisesWithin codes)
    (hf : ∀ a t, t.Clear → (f a t).RaisesWithin codes) : (r.bind f).RaisesWithin codes := by
  obtain ⟨st, val⟩ := r
  cases val with
  | none =>
    rcases hr with ⟨h, -⟩ | hr
    · cases h
    · exact .inr ⟨rfl, hr.2⟩
  | some a =>
    rcases hr with ⟨-, h⟩ | ⟨h, -⟩
    · exact hf a st h
    · cases h

/-! ### The faults of each part of a body -/

theorem pinRead_raisesWithin (p : InPin) (h : s.Clear) (hc : BlockFault.latch (.io (InPin.role p)) ∈ codes) :
    (pinRead p s).RaisesWithin codes := by
  cases hg : s.granted with
  | true => rw [pinRead_granted p hg]; exact Run.raisesWithin_ret _ h
  | false => rw [pinRead_failed p hg]; exact raise_raisesWithin h hc

/-- The codes of a DisplayFault (R96). -/
def displayCodes : List (BitVec 8) :=
  [0xC0#8, 0xC1#8]

theorem latch_display_mem (k : DisplayFailure) : BlockFault.latch (.display k) ∈ displayCodes := by
  cases k <;> decide

theorem dispUpdate_raisesWithin (f : Frame) (h : s.Clear) (hc : displayCodes ⊆ codes) :
    (dispUpdate f s).RaisesWithin codes := by
  unfold dispUpdate
  cases hg : s.granted with
  | true => rw [dispWrite_granted f hg]; exact Run.raisesWithin_ret _ h
  | false => rw [dispWrite_failed f hg]; exact raise_raisesWithin h (hc (latch_display_mem _))

/-- The codes of the lines that SG.ROTATE writes: step, direction and enable (R201). -/
def rotateCodes : List (BitVec 8) :=
  [0xA0#8, 0xA1#8, 0xA2#8]

theorem sgEnable_raisesWithin (h : s.Clear) (hc : 0xA2#8 ∈ codes) : (sgEnable s).RaisesWithin codes := by
  cases hg : s.granted with
  | true => rw [sgEnable_granted hg]; exact Run.raisesWithin_ret _ h
  | false => rw [sgEnable_failed hg]; exact raise_raisesWithin h hc

theorem sgDisable_raisesWithin (h : s.Clear) (hc : 0xA2#8 ∈ codes) : (sgDisable s).RaisesWithin codes := by
  cases hg : s.granted with
  | true => rw [sgDisable_granted hg]; exact Run.raisesWithin_ret _ h
  | false => rw [sgDisable_failed hg]; exact raise_raisesWithin h hc

/-- SG.ROTATE fails at a write of one of its three lines (R136). -/
theorem sgRotate_raisesWithin (d : Bool) (steps : Word) (h : s.Clear) (hc : rotateCodes ⊆ codes) :
    (sgRotate d steps s).RaisesWithin codes := by
  rcases sgRotate_cases d steps s with ⟨-, hr⟩ | ⟨k, w, -, -, -, hw, hr⟩ <;> rw [hr]
  · exact Run.raisesWithin_ret _ (by simpa [State.rotated] using h)
  · have hrole : BlockFault.latch (.io (OutPin.role w.1)) ∈ rotateCodes := by
      rcases rotateWrites_lines _ _ _ w (List.mem_of_getElem? hw) with hp | hp | hp <;> rw [hp] <;> decide
    exact raise_raisesWithin (by simpa [State.Clear] using h) (hc hrole)

/-- SG.SET_MODE fails at a write of a mode line (R132). -/
theorem sgSetMode_raisesWithin (m : MicrostepMode) (h : s.Clear) (hc : 0xA3#8 ∈ codes) :
    (sgSetMode m s).RaisesWithin codes := by
  rcases sgSetMode_cases m s with ⟨-, hr⟩ | ⟨k, -, -, -, hr⟩ <;> rw [hr]
  · exact Run.raisesWithin_ret _ (by simpa [State.modeDriven] using h)
  · exact raise_raisesWithin (by simpa [State.modeDriven] using h) hc

theorem State.Clear.latchRotation (h : s.Clear) (r : Rotation) : (s.latchRotation r).Clear := by
  rcases s.latchRotation_cases r with hs | hs <;> rw [hs] <;> exact h

theorem qdUpdate_raisesWithin (h : s.Clear) (ha : 0xA4#8 ∈ codes) (hb : 0xA5#8 ∈ codes) :
    (qdUpdate s).RaisesWithin codes := by
  unfold qdUpdate
  split
  · refine (pinRead_raisesWithin .encA h ha).bind fun a t ht => ?_
    split
    · exact (pinRead_raisesWithin .encB ht hb).bind fun _ _ hu => Run.raisesWithin_ret _ hu
    · exact Run.raisesWithin_ret _ ht
  · refine (pinRead_raisesWithin .encA h ha).bind fun a t ht => ?_
    split
    · exact (pinRead_raisesWithin .encB ht hb).bind fun _ _ hu => Run.raisesWithin_ret _ (hu.latchRotation _)
    · exact Run.raisesWithin_ret _ (ht.latchRotation _)

theorem cooldownTest_raisesWithin (h : s.Clear) : (cooldownTest s).RaisesWithin codes := by
  obtain ⟨s', b, hstep, heq⟩ := cooldownTest_ret s
  rw [heq]
  exact Run.raisesWithin_ret _ (by cases hstep <;> exact h)

theorem openCooldown_raisesWithin (h : s.Clear) : (openCooldown s).RaisesWithin codes := by
  unfold openCooldown
  split <;> exact Run.raisesWithin_ret _ h

/-! ### The faults of each body (R201) -/

theorem tickHoming_raisesWithin (h : s.Clear) : (tickHoming s).RaisesWithin (raisable .tick) := by
  refine (sgRotate_raisesWithin _ _ h (by decide)).bind fun _ _ ht =>
    (pinRead_raisesWithin .home ht (by decide)).bind fun _ _ hu => ?_
  split
  · exact dispUpdate_raisesWithin _ hu (by decide)
  · exact Run.raisesWithin_ret _ hu

theorem tickMove_raisesWithin (c : Word) (h : s.Clear) : (tickMove c s).RaisesWithin (raisable .tick) := by
  unfold tickMove
  split <;> exact (sgRotate_raisesWithin _ _ h (by decide)).bind fun _ _ ht => Run.raisesWithin_ret _ ht

theorem tickBody_raisesWithin (h : s.Clear) : (tickBody s).RaisesWithin (raisable .tick) := by
  refine (cooldownTest_raisesWithin h).bind fun _ _ ht => ?_
  split
  · exact tickHoming_raisesWithin ht
  · split
    · exact tickMove_raisesWithin _ ht
    · exact Run.raisesWithin_ret _ ht

theorem turn_raisesWithin (r : Rotation) (h : s.Clear) : (turn r s).RaisesWithin (raisable .encEdge) := by
  refine (openCooldown_raisesWithin (s := s.setTgt (turnedTarget r s)) h).bind fun _ _ ht => ?_
  split
  · exact dispUpdate_raisesWithin _ ht (by decide)
  · exact Run.raisesWithin_ret _ ht

theorem encEdgeBody_raisesWithin (h : s.Clear) : (encEdgeBody s).RaisesWithin (raisable .encEdge) := by
  refine (qdUpdate_raisesWithin h (by decide) (by decide)).bind fun r _ ht => ?_
  cases r with
  | none => exact Run.raisesWithin_ret _ ht
  | cw => exact turn_raisesWithin _ ht
  | ccw => exact turn_raisesWithin _ ht

theorem limitMove_raisesWithin (h : s.Clear) : (limitMove s).RaisesWithin (raisable .limitEdge) := by
  unfold limitMove
  split
  · exact sgRotate_raisesWithin _ _ h (by decide)
  · exact Run.raisesWithin_ret _ h

theorem limitEdgeBody_raisesWithin (h : s.Clear) : (limitEdgeBody s).RaisesWithin (raisable .limitEdge) :=
  (limitMove_raisesWithin h).bind fun _ _ ht =>
    dispUpdate_raisesWithin _ ht (by decide)

/-- The code of a failing check of CONSTRUCT is listed (R184, R201). -/
theorem latch_failingCheck {c : Cfg} {k : Nat} (h : failingCheck c = some k) :
    BlockFault.latch (.config (BitVec.ofNat 5 k)) ∈ raisable .construct := by
  have hlisted : ∀ j ∈ [1, 2, 3, 4, 5, 6, 7, 8, 9],
      BlockFault.latch (.config (BitVec.ofNat 5 j)) ∈ raisable .construct := by decide
  exact hlisted k (List.mem_of_find?_eq_some h)

theorem constructBody_raisesWithin (h : s.Clear) : (constructBody s).RaisesWithin (raisable .construct) := by
  unfold constructBody
  split
  · rename_i hk
    exact raise_raisesWithin h (latch_failingCheck hk)
  · exact raise_raisesWithin h (by decide)
  · refine (sgSetMode_raisesWithin _ (s := s.initRegisters) h (by decide)).bind fun _ _ ht =>
      (dispUpdate_raisesWithin _ ht (by decide)).bind fun _ _ hu => ?_
    exact Run.raisesWithin_ret _ ⟨by simp, hu.2⟩

/-! ### The faults of each operation -/

/-- An operation that answers a next state ran to it under its `require`. -/
theorem runIf_raises {legal : Bool} {r : Run α} (he : runIf legal r = .next t) (hr : r.RaisesWithin codes) :
    t.Clear ∨ (t.ctx = .halted ∧ t.fault ∈ codes) := by
  obtain ⟨-, rfl⟩ := runIf_next.1 he
  exact hr.outcome

theorem exec_raises (h : s.Clear) (he : exec i s = .next t) : t.Clear ∨ (t.ctx = .halted ∧ t.fault ∈ raisable i) := by
  cases i with
  | tick => exact runIf_raises he (tickBody_raisesWithin h)
  | encEdge => exact runIf_raises he (encEdgeBody_raisesWithin h)
  | homeEdge => exact runIf_raises he (dispUpdate_raisesWithin _ h (List.Subset.refl _))
  | limitEdge =>
    rw [exec, execLimitEdge] at he
    split at he
    · exact runIf_raises he (limitEdgeBody_raisesWithin h)
    · cases he
  | qdUpdate =>
    exact runIf_raises he ((qdUpdate_raisesWithin h (by decide) (by decide)).bind fun _ _ ht =>
      Run.raisesWithin_ret _ ht)
  | sgDisable => exact runIf_raises he (sgDisable_raisesWithin h (by decide))
  | sgEnable => exact runIf_raises he (sgEnable_raisesWithin h (by decide))
  | sgRotate d steps => exact runIf_raises he (sgRotate_raisesWithin d steps h (List.Subset.refl _))
  | sgSetMode m =>
    rw [exec, execSgSetMode] at he
    split at he
    · exact runIf_raises he (sgSetMode_raisesWithin _ h (by simp [raisable]))
    · cases he
  | dispWelcome => exact runIf_raises he (dispUpdate_raisesWithin _ h (List.Subset.refl _))
  | dispCalibrating => exact runIf_raises he (dispUpdate_raisesWithin _ h (List.Subset.refl _))
  | dispHeight mm =>
    rw [exec, execDispHeight] at he
    split at he
    · exact runIf_raises he (dispUpdate_raisesWithin _ h (List.Subset.refl _))
    · cases he
  | csEnter => exact runIf_raises he (Run.raisesWithin_ret _ h)
  | csExit => exact runIf_raises he (Run.raisesWithin_ret _ h)
  | construct => exact runIf_raises he (constructBody_raisesWithin h)

/-- Settles O36: no operation runs in HALTED, so one that answers a next state began with the block running. -/
theorem onlyListedFaultsAreRaised : Obligations.OnlyListedFaultsAreRaised := by
  intro i s t hfault he
  have hx : s.ctx ≠ .halted := by
    intro hx
    obtain ⟨r, hr⟩ := exec_halted_refused hx i
    rw [hr] at he
    cases he
  exact exec_raises ⟨hx, hfault⟩ he

end Sys2Proof.Machine
end

section
/-! PROOFS. The QuadratureDecoder (40_quadrature_decoder.md R120, R124): O8, O25, O27. What QD.UPDATE does is said
once, by the reads it makes: a failing read of A, a failing read of B, and the cases of `DecodeStep` where no read fails.
QD.UPDATE requested by itself and ENC_EDGE, which calls it, then follow from the same equations. -/

namespace Sys2Proof.Machine

open Sys2Proof

variable {s s' : State} {r : Rotation}

/-! ### One and two granted accesses -/

theorem State.grants_one_iff : s.grants 1 ↔ s.granted = true := by
  rw [State.grants_succ, and_iff_left (State.grants_zero _)]

theorem State.grants_two_iff : s.grants 2 ↔ s.granted = true ∧ s.pass.granted = true := by
  rw [State.grants_succ, State.grants_one_iff]

/-! ### The two policies -/

theorem qdUpdate_immediateLevel (hp : s.cfg.qdPolicy = .immediateLevel) : qdUpdate s = qdImmediate s := by
  simp only [qdUpdate, hp]

theorem qdUpdate_edgeLatched (hp : s.cfg.qdPolicy = .edgeLatched) : qdUpdate s = qdEdgeLatched s := by
  simp only [qdUpdate, hp]

theorem State.latchRotation_edgeLatched (hp : s.cfg.qdPolicy = .edgeLatched) (r : Rotation) :
    s.latchRotation r = s.setQdPend r := by
  simp only [State.latchRotation, hp]

theorem State.pendingRotation_edgeLatched (hp : s.cfg.qdPolicy = .edgeLatched) : s.pendingRotation = s.qdPend := by
  simp only [State.pendingRotation, hp]

/-- With A at the active level, ImmediateLevel goes on to read B and emits its direction (R121). -/
theorem qdImmediate_active (hg : s.granted = true) (ha : s.pass.level .encA = activeLevel s.cfg) :
    qdImmediate s = (pinRead .encB s.pass).bind fun b t => .ret (directionOf b) t := by
  rw [qdImmediate, pinRead_granted _ hg, Run.ret_bind]
  exact if_pos ha

/-- With A off the active level, ImmediateLevel emits nothing: the edge bounced (R121). -/
theorem qdImmediate_inactive (hg : s.granted = true) (ha : s.pass.level .encA ≠ activeLevel s.cfg) :
    qdImmediate s = .ret .none s.pass := by
  rw [qdImmediate, pinRead_granted _ hg, Run.ret_bind]
  exact if_neg ha

/-- With A at the active level, EdgeLatched goes on to read B and latches its direction (R122, R123). -/
theorem qdEdgeLatched_active (hg : s.granted = true) (ha : s.pass.level .encA = activeLevel s.cfg) :
    qdEdgeLatched s = (pinRead .encB s.pass).bind fun b t => .ret .none (t.latchRotation (directionOf b)) := by
  rw [qdEdgeLatched, pinRead_granted _ hg, Run.ret_bind]
  exact if_pos ha

/-- With A off the active level, EdgeLatched emits the latched direction and clears the latch (R122, R123). -/
theorem qdEdgeLatched_inactive (hg : s.granted = true) (ha : s.pass.level .encA ≠ activeLevel s.cfg) :
    qdEdgeLatched s = .ret s.pass.pendingRotation (s.pass.latchRotation .none) := by
  rw [qdEdgeLatched, pinRead_granted _ hg, Run.ret_bind]
  exact if_neg ha

/-! ### QD.UPDATE by the reads it makes -/

/-- A failing read of A raises IoFault(encoder-A) at once, under either policy. -/
theorem qdUpdate_encA_failed (hg : s.granted = false) : qdUpdate s = raise (.io .encoderA) s.pass := by
  cases hp : s.cfg.qdPolicy with
  | immediateLevel => rw [qdUpdate_immediateLevel hp, qdImmediate, pinRead_failed _ hg, raise_bind]; rfl
  | edgeLatched => rw [qdUpdate_edgeLatched hp, qdEdgeLatched, pinRead_failed _ hg, raise_bind]; rfl

/-- B is read only with A at the active level; its failing read raises IoFault(encoder-B) before anything is written. -/
theorem qdUpdate_encB_failed (hg : s.granted = true) (ha : s.pass.level .encA = activeLevel s.cfg)
    (hb : s.pass.granted = false) : qdUpdate s = raise (.io .encoderB) s.pass.pass := by
  cases hp : s.cfg.qdPolicy with
  | immediateLevel => rw [qdUpdate_immediateLevel hp, qdImmediate_active hg ha, pinRead_failed _ hb, raise_bind]; rfl
  | edgeLatched => rw [qdUpdate_edgeLatched hp, qdEdgeLatched_active hg ha, pinRead_failed _ hb, raise_bind]; rfl

/-- ImmediateLevel with both reads granted and A active emits the direction of B. -/
theorem qdUpdate_immediate (hp : s.cfg.qdPolicy = .immediateLevel) (hg : s.grants 2)
    (ha : s.pass.level .encA = activeLevel s.cfg) :
    qdUpdate s = .ret (directionOf (s.pass.pass.level .encB)) s.pass.pass := by
  obtain ⟨h0, h1⟩ := State.grants_two_iff.1 hg
  rw [qdUpdate_immediateLevel hp, qdImmediate_active h0 ha, pinRead_granted _ h1, Run.ret_bind]

/-- EdgeLatched with both reads granted and A active latches the direction of B and emits nothing. -/
theorem qdUpdate_start (hp : s.cfg.qdPolicy = .edgeLatched) (hg : s.grants 2)
    (ha : s.pass.level .encA = activeLevel s.cfg) :
    qdUpdate s = .ret .none (s.pass.pass.setQdPend (directionOf (s.pass.pass.level .encB))) := by
  obtain ⟨h0, h1⟩ := State.grants_two_iff.1 hg
  rw [qdUpdate_edgeLatched hp, qdEdgeLatched_active h0 ha, pinRead_granted _ h1, Run.ret_bind,
    State.latchRotation_edgeLatched (s := s.pass.pass) hp]

/-- QD.UPDATE does what the case tables of R120 say. -/
theorem DecodeStep.qdUpdate_eq (h : DecodeStep s s' r) : qdUpdate s = .ret r s' := by
  cases h with
  | bounced hp hg ha => rw [qdUpdate_immediateLevel hp, qdImmediate_inactive (State.grants_one_iff.1 hg) ha]
  | immediateHigh hp hg ha hb => rw [qdUpdate_immediate hp hg ha, hb]; rfl
  | immediateLow hp hg ha hb => rw [qdUpdate_immediate hp hg ha, hb]; rfl
  | startHigh hp hg ha hb => rw [qdUpdate_start hp hg ha, hb]; rfl
  | startLow hp hg ha hb => rw [qdUpdate_start hp hg ha, hb]; rfl
  | completed hp hg ha =>
    rw [qdUpdate_edgeLatched hp, qdEdgeLatched_inactive (State.grants_one_iff.1 hg) ha,
      State.pendingRotation_edgeLatched (s := s.pass) hp, State.latchRotation_edgeLatched (s := s.pass) hp]
    rfl

/-- The case tables leave no state out: policy, level of A and level of B select a case. -/
theorem exists_decodeStep (hg : s.grants 2) : ∃ s' r, DecodeStep s s' r := by
  have h1 : s.grants 1 := State.grants_one_iff.2 (State.grants_two_iff.1 hg).1
  by_cases ha : s.pass.level .encA = activeLevel s.cfg
  · cases hp : s.cfg.qdPolicy <;> cases hb : s.pass.pass.level .encB
    case immediateLevel.true => exact ⟨_, _, .immediateHigh hp hg ha hb⟩
    case immediateLevel.false => exact ⟨_, _, .immediateLow hp hg ha hb⟩
    case edgeLatched.true => exact ⟨_, _, .startHigh hp hg ha hb⟩
    case edgeLatched.false => exact ⟨_, _, .startLow hp hg ha hb⟩
  · cases hp : s.cfg.qdPolicy with
    | immediateLevel => exact ⟨_, _, .bounced hp h1 ha⟩
    | edgeLatched => exact ⟨_, _, .completed hp h1 ha⟩

/-- QD.UPDATE writes `qd_pend` alone, beside letting time pass. -/
theorem DecodeStep.frame (h : DecodeStep s s' r) :
    s'.tgt = s.tgt ∧ s'.cd = s.cd ∧ s'.cdV = s.cdV ∧ s'.disp = s.disp ∧ s'.hist = s.hist := by
  cases h <;> exact ⟨rfl, rfl, rfl, rfl, rfl⟩

/-! ### QD.UPDATE and ENC_EDGE in the ENC handler -/

/-- In the ENC handler QD.UPDATE runs, and what it returned is shown in `reply`. -/
theorem exec_qdUpdate_legal (hm : s.masked = true) (hc : s.ctx = .hEnc) :
    exec .qdUpdate s = .next ((qdUpdate s).bind fun r t => .ret () (t.setReply (some r))).st :=
  runIf_legal ((s.inBody_iff _).2 ⟨hm, hc⟩)

theorem exec_encEdge_legal (hm : s.masked = true) (hc : s.ctx = .hEnc) :
    exec .encEdge s = .next (encEdgeBody s).st :=
  runIf_legal ((s.inBody_iff _).2 ⟨hm, hc⟩)

theorem encEdgeBody_of_none (h : qdUpdate s = .ret .none s') : encEdgeBody s = .ret () s' := by
  rw [encEdgeBody, h, Run.ret_bind]

/-- A fault in the called QD.UPDATE ends ENC_EDGE there (R13). -/
theorem encEdgeBody_of_raise {f : BlockFault} (h : qdUpdate s = raise f s') : encEdgeBody s = raise f s' := by
  rw [encEdgeBody, h, raise_bind]

theorem exec_qdUpdate_raises {f : BlockFault} (hm : s.masked = true) (hc : s.ctx = .hEnc)
    (h : qdUpdate s = raise f s') : exec .qdUpdate s = .next (s'.haltedWith (BlockFault.latch f)) := by
  rw [exec_qdUpdate_legal hm hc, h, raise_bind, raise_st, State.takeFault_eq]

theorem exec_encEdge_raises {f : BlockFault} (hm : s.masked = true) (hc : s.ctx = .hEnc)
    (h : qdUpdate s = raise f s') : exec .encEdge s = .next (s'.haltedWith (BlockFault.latch f)) := by
  rw [exec_encEdge_legal hm hc, encEdgeBody_of_raise h, raise_st, State.takeFault_eq]

/-! ### The obligations -/

/-- Settles O8: each clause is one equation of QD.UPDATE, by the reads that succeed. -/
theorem qdUpdateDecodes : Obligations.QdUpdateDecodes := by
  refine ⟨rfl, fun s s' r hm hc h => ⟨h.qdUpdate_eq, ?returned⟩, fun s hg => exists_decodeStep hg,
    fun s hm hc hg => exec_qdUpdate_raises hm hc (qdUpdate_encA_failed hg),
    fun s hm hc hg ha hb => exec_qdUpdate_raises hm hc (qdUpdate_encB_failed hg ha hb),
    fun s hx => runIf_refused ((s.inBody_false _).2 hx)⟩
  case returned =>
    rw [exec_qdUpdate_legal hm hc, h.qdUpdate_eq]
    rfl

/-- Settles O25: ENC_EDGE has nothing to do after a None, and the decoder writes `qd_pend` alone. -/
theorem encEdgeWithoutRotation : Obligations.EncEdgeWithoutRotation := by
  intro s s' hm hc h
  have hrun : exec .encEdge s = .next s' := by
    rw [exec_encEdge_legal hm hc, encEdgeBody_of_none h.qdUpdate_eq, Run.ret_st]
  exact ⟨hrun, h.frame⟩

/-- Settles O27: the fault is raised in QD.UPDATE, before its own write and before every line of ENC_EDGE. -/
theorem encEdgeReadFails : Obligations.EncEdgeReadFails := by
  rintro s t hm hc (⟨hg, rfl⟩ | ⟨hg, ha, hb, rfl⟩)
  · exact ⟨exec_encEdge_raises hm hc (qdUpdate_encA_failed hg), rfl, rfl, rfl, rfl, rfl, rfl, rfl, rfl⟩
  · exact ⟨exec_encEdge_raises hm hc (qdUpdate_encB_failed hg ha hb), rfl, rfl, rfl, rfl, rfl, rfl, rfl, rfl⟩

end Sys2Proof.Machine
end

section
/-! PROOFS. The StepGenerator (41_step_generator.md R132 to R136, R138): O9, O10, O11, O13, O14. An operation in a call
answers the state of its run, completed or halted. What is left is what SG.SET_MODE does to the mode latches, and what
a failing train leaves behind, alone and in the bodies that move the motor. -/

namespace Sys2Proof.Machine

open Sys2Proof

variable {α : Type} {s s' t : State}

/-! ### A legal request: its run completes or raises -/

theorem runIf_of_ret {legal : Bool} {r : Run α} {a : α} (hl : legal = true) (hr : r = .ret a t) :
    runIf legal r = .next t := by
  rw [runIf_legal hl, hr, Run.ret_st]

theorem runIf_of_raise {legal : Bool} {r : Run α} {f : BlockFault} (hl : legal = true) (hr : r = raise f t) :
    runIf legal r = .next (t.haltedWith (BlockFault.latch f)) := by
  rw [runIf_legal hl, hr, raise_st, State.takeFault_eq]

/-! ### SG.ENABLE and SG.DISABLE (R133, R134) -/

/-- Settles O9: one write of the enable line, granted or failed. -/
theorem sgEnableDrivesLineAndFlag : Obligations.SgEnableDrivesLineAndFlag :=
  ⟨rfl, fun s => ⟨fun h hg => runIf_of_ret (s.canCall_iff.2 h) (sgEnable_granted hg),
    fun h hg => runIf_of_raise (s.canCall_iff.2 h) (sgEnable_failed hg),
    fun h => runIf_refused (s.canCall_false.2 h)⟩⟩

/-- Settles O10: one write of the enable line, granted or failed. -/
theorem sgDisableDrivesLineAndFlag : Obligations.SgDisableDrivesLineAndFlag :=
  ⟨rfl, fun s => ⟨fun h hg => runIf_of_ret (s.canCall_iff.2 h) (sgDisable_granted hg),
    fun h hg => runIf_of_raise (s.canCall_iff.2 h) (sgDisable_failed hg),
    fun h => runIf_refused (s.canCall_false.2 h)⟩⟩

/-! ### SG.SET_MODE (R132) -/

theorem exec_sgSetMode {m : BitVec 3} {mode : MicrostepMode} (hm : modeOfCode m = some mode) (s : State) :
    exec (.sgSetMode m) s = runIf s.canCall (sgSetMode mode s) := by
  simp only [exec, execSgSetMode, hm]

/-- With `k` mode lines driven, the first `k` latches hold the new levels and the others the old ones. -/
theorem getLsbD_drivenModes (k : Nat) (levels old : BitVec 3) {i : Nat} (hi : i < 3) :
    (drivenModes k levels old).getLsbD i = if i < k then levels.getLsbD i else old.getLsbD i := by
  have hmask : (BitVec.ofNat 3 (2 ^ k - 1)).getLsbD i = decide (i < k) := by
    rw [BitVec.getLsbD_ofNat, Nat.testBit_two_pow_sub_one, decide_eq_true hi, Bool.true_and]
  rw [drivenModes, BitVec.getLsbD_or, BitVec.getLsbD_and, BitVec.getLsbD_and, BitVec.getLsbD_not, hmask]
  by_cases h : i < k <;> simp [hi, h]

/-- Driving some of the lines again with the levels they hold changes no latch. -/
theorem drivenModes_again {k n : Nat} (hk : k ≤ n) (levels old : BitVec 3) :
    drivenModes k levels (drivenModes n levels old) = drivenModes n levels old := by
  apply BitVec.eq_of_getLsbD_eq
  intro i hi
  rw [getLsbD_drivenModes _ _ _ hi]
  split
  · rw [getLsbD_drivenModes _ _ _ hi, if_pos (by omega)]
  · rfl

theorem State.modeDriven_lines (s : State) (levels : BitVec 3) (k j : Nat) :
    (s.modeDriven levels k j).lines = s.lines := by
  simp [State.modeDriven, State.lines]

/-- An SG.SET_MODE that answers a next state has driven the first `k` mode lines and no other line; it has driven them
all unless it halted. -/
theorem exec_sgSetMode_drives {m : BitVec 3} {mode : MicrostepMode} (hm : modeOfCode m = some mode)
    (he : exec (.sgSetMode m) s = .next t) :
    ∃ k, k ≤ modeAccesses s.cfg ∧ t.oMs = drivenModes k (modeLevels s.cfg mode) s.oMs ∧ t.lines = s.lines ∧
      (t.ctx ≠ .halted → k = modeAccesses s.cfg) := by
  rw [exec_sgSetMode hm] at he
  obtain ⟨-, rfl⟩ := runIf_next.1 he
  rcases sgSetMode_cases mode s with ⟨-, hr⟩ | ⟨k, hk, -, -, hr⟩ <;> rw [hr]
  · exact ⟨_, Nat.le_refl _, rfl, s.modeDriven_lines _ _ _, fun _ => rfl⟩
  · exact ⟨k, Nat.le_of_lt hk, rfl, s.modeDriven_lines (modeLevels s.cfg mode) k (k + 1), fun hx => absurd rfl hx⟩

/-- Settles O11: the first SG.SET_MODE leaves every mode line at its level, so that the second, however far it comes,
drives each line it reaches with the level that line holds. -/
theorem sgSetModeDrivesLines : Obligations.SgSetModeDrivesLines := by
  intro s m mode hm
  refine ⟨rfl, fun h hg => ?granted, fun k h hk hg hf => ?failed, fun h => ?refused, fun t u ht hx hu => ?again⟩
  case granted => rw [exec_sgSetMode hm, runIf_of_ret (s.canCall_iff.2 h) (sgSetMode_granted mode hg)]
  case failed =>
    rw [exec_sgSetMode hm, runIf_of_raise (s.canCall_iff.2 h) (sgSetMode_failed mode hk hg hf)]
    rfl
  case refused => rw [exec_sgSetMode hm, runIf_refused (s.canCall_false.2 h)]
  case again =>
    obtain ⟨n, -, hms, -, hall⟩ := exec_sgSetMode_drives hm ht
    obtain ⟨k, hk, hms', hlines, -⟩ := exec_sgSetMode_drives hm hu
    have hcfg : t.cfg = s.cfg := exec_cfg ht
    rw [hcfg] at hk hms'
    rw [hall hx] at hms
    rw [hms', hms]
    exact ⟨drivenModes_again hk _ _, hlines⟩

/-! ### SG.ROTATE with no failing write (R135, R138) -/

/-- Where flag and enable line agree, a whole SG.ROTATE restores both (R138). -/
theorem State.rotated_restores (h : s.sgEn = !s.oEnN) (d : Bool) (n : Nat) :
    (s.rotated d n).sgEn = s.sgEn ∧ (s.rotated d n).oEnN = s.oEnN := by
  refine ⟨s.passes_sgEn _, ?_⟩
  have hen : (s.rotated d n).oEnN = if s.sgEn then s.oEnN else true := rfl
  rw [hen, h]
  cases s.oEnN <;> rfl

/-- Settles O13: a whole SG.ROTATE, `steps = 0` included, is one equation of its run. -/
theorem sgRotateEmitsTrain : Obligations.SgRotateEmitsTrain := fun s d steps =>
  ⟨rfl, fun h hg => runIf_of_ret (s.canCall_iff.2 h) (sgRotate_granted d steps hg),
    fun _ _ hen => State.rotated_restores hen d steps.toNat, fun h => runIf_refused (s.canCall_false.2 h)⟩

/-! ### SG.ROTATE whose train fails (R136, R203) -/

/-- An empty fault latch takes the fault (R203). -/
theorem State.haltedWith_fault (h : s.faultValid = false) (code : BitVec 8) : (s.haltedWith code).fault = code := by
  have e : (s.haltedWith code).fault = if s.faultValid then s.fault else code := rfl
  rw [e, h]
  rfl

/-- Writes to the step, direction and enable lines, and the access after them, touch those lines, the history and the
environment's side alone. -/
theorem State.written_pass_eq (s : State) {ws : List (OutPin × Bool)}
    (hw : ∀ w ∈ ws, w.1 = .step ∨ w.1 = .dir ∨ w.1 = .enN) :
    (s.written ws).pass = { s.passes (ws.length + 1) with
      oStep := (s.written ws).oStep, oDir := (s.written ws).oDir, oEnN := (s.written ws).oEnN,
      hist := (s.written ws).hist } := by
  have hp : s.passes (ws.length + 1) = (s.passes ws.length).pass := s.passes_add ws.length 1
  have e := (sameWorld_written s ws).pass
  have hms := s.written_oMs hw
  apply State.ext <;> simp [hp, hms, e.env, e.ip]

/-- An event of SG.ROTATE is that of the write at its place. -/
theorem rotateWrites_of_event {enabled d : Bool} {n k : Nat} {p : OutPin} {b : Bool}
    (h : (rotateEvents enabled d n)[k]? = some (.pin p b)) : (rotateWrites enabled d n)[k]? = some (p, b) := by
  rw [← rotateWrites_events, List.getElem?_map, Option.map_eq_some_iff] at h
  obtain ⟨⟨q, c⟩, hw, he⟩ := h
  obtain ⟨rfl, rfl⟩ := OutEvent.pin.inj he
  exact hw

/-- In a body whose SG.ROTATE fails nothing after the train runs: the block has halted and `cur` is as it was (R13, R136). -/
theorem sgRotate_bind_aborts {d : Bool} {steps : Word} {k : Nat} (hk : k < rotateAccesses s.sgEn steps.toNat)
    (hg : s.grants k) (hf : (s.passes k).granted = false) (g : Unit → State → Run α) :
    ((sgRotate d steps s).bind g).st.ctx = .halted ∧ ((sgRotate d steps s).bind g).st.cur = s.cur := by
  have hk' : k < (rotateWrites s.sgEn d steps.toNat).length := by rwa [rotateWrites_length]
  rw [sgRotate_failed hg hf (List.getElem?_eq_getElem hk'), raise_bind]
  exact ⟨rfl, s.written_cur _⟩

theorem tickMove_aborts {c : Word} {k : Nat} (hk : k < rotateAccesses s.sgEn (stepCount s.cfg.spt c s.tgt).toNat)
    (hg : s.grants k) (hf : (s.passes k).granted = false) :
    (tickMove c s).st.ctx = .halted ∧ (tickMove c s).st.cur = s.cur := by
  unfold tickMove
  split
  · exact sgRotate_bind_aborts hk hg hf _
  · exact sgRotate_bind_aborts hk hg hf _

/-- LIMIT_EDGE with an offset begins with its compensating move (R160). -/
theorem limitEdgeBody_moving (h : s.cfg.limitOfs ≠ 0#32) :
    limitEdgeBody s = (sgRotate (awayFromHome s.cfg) s.cfg.limitOfs s).bind fun _ t =>
      dispUpdate (frameOf t.atLimit) t.atLimit := by
  have hpos : 0#32 < s.cfg.limitOfs := by bv_omega
  rw [limitEdgeBody, limitMove, if_pos hpos]

/-! ### TICK by the cooldown test (R156, R157) -/

/-- The cooldown test does what the case table of R156 says. -/
theorem CooldownStep.cooldownTest_eq {b : Bool} (h : CooldownStep s s' b) : cooldownTest s = .ret b s' := by
  cases h with
  | counted hd h =>
    have hlt : 0#32 < s.cd := by bv_omega
    simp only [cooldownTest, hd, if_pos hlt]; rfl
  | idleCounter hd h => simp [cooldownTest, hd, h]
  | idleClock hd h => simp [cooldownTest, hd, h]
  | expired hd h ht =>
    have hle : s.cfg.cooldown ≤ s.pass.env.now - s.cd := ht
    simp [cooldownTest, hd, h, clockRead, hle]; rfl
  | open_ hd h ht =>
    have hgt : ¬s.cfg.cooldown ≤ s.pass.env.now - s.cd := Nat.not_le_of_lt ht
    simp [cooldownTest, hd, h, clockRead, hgt]

/-- A Tracking TICK off its target that is not suppressed goes on to its move. -/
theorem tickBody_moves {c : Word} (h : CooldownStep s s' false) (hcur : s.cur = some c) (hne : c ≠ s.tgt) :
    tickBody s = tickMove c s' := by
  obtain ⟨hcur', htgt, -⟩ := h.frame
  rw [tickBody, h.cooldownTest_eq, Run.ret_bind, hcur', hcur, htgt]
  exact if_pos ⟨hne, rfl⟩

/-- An Uncalibrated TICK homes, suppressed or not (R156, R161). -/
theorem tickBody_homes {b : Bool} (h : CooldownStep s s' b) (hcur : s.cur = none) : tickBody s = tickHoming s' := by
  obtain ⟨hcur', -⟩ := h.frame
  rw [tickBody, h.cooldownTest_eq, Run.ret_bind, hcur', hcur]

/-- Settles O14: the train raises at its first failing write, and a raise ends the operation and the body there. -/
theorem sgRotateAbortsOnFailure : Obligations.SgRotateAbortsOnFailure := by
  refine ⟨fun s d steps k p b h hg hf hev => ?rotate, fun s s' t c k _ _ hcd hcur hne hk hg hf he => ?tracking,
    fun s s' t b k hcd hcur hk hg hf he => ?homing, fun s t k hofs hk hg hf he => ?limit⟩
  case rotate =>
    have hw := rotateWrites_of_event hev
    refine ⟨_, runIf_of_raise (s.canCall_iff.2 h) (sgRotate_failed hg hf hw), rfl, ?hist, ?lines, rfl, ?fault, ?frame⟩
    case hist => rw [← rotateWrites_events, ← List.map_take]; exact s.written_hist _
    case lines => rw [← rotateWrites_events, ← List.map_take]; exact s.written_lines _
    case fault => exact fun hv => State.haltedWith_fault (by simpa [State.faultValid] using hv) _
    case frame =>
      have hk : k < (rotateWrites s.sgEn d steps.toNat).length := (List.getElem?_eq_some_iff.1 hw).1
      have hpass := s.written_pass_eq (ws := (rotateWrites s.sgEn d steps.toNat).take k) fun w hm =>
        rotateWrites_lines s.sgEn d steps.toNat w (List.mem_of_mem_take hm)
      rw [List.length_take_of_le (Nat.le_of_lt hk)] at hpass
      rw [hpass]
      rfl
  case tracking =>
    obtain ⟨hcur', htgt, hcfg, hsg, -⟩ := hcd.frame
    obtain ⟨-, rfl⟩ := runIf_next.1 he
    rw [tickBody_moves hcd hcur hne, ← hcur']
    exact tickMove_aborts (by rwa [hsg, hcfg, htgt]) hg hf
  case homing =>
    obtain ⟨hcur', -, hcfg, hsg, -⟩ := hcd.frame
    obtain ⟨-, rfl⟩ := runIf_next.1 he
    rw [tickBody_homes hcd hcur, ← hcur, ← hcur']
    exact sgRotate_bind_aborts (by rwa [hsg, hcfg]) hg hf _
  case limit =>
    cases hlim : s.cfg.hasLimit with
    | false =>
      rw [exec_limitEdge_without_sensor hlim] at he
      cases he
    | true =>
      rw [exec, execLimitEdge, if_pos hlim] at he
      obtain ⟨-, rfl⟩ := runIf_next.1 he
      rw [limitEdgeBody_moving hofs]
      exact sgRotate_bind_aborts hk hg hf _

end Sys2Proof.Machine
end

section
/-! PROOFS. The arithmetic of the HeightController (42_height_controller.md R150 to R154): O5, O6, O7. Each law is one
equation on naturals for the function of the model, under the premise that its rule states. -/

namespace Sys2Proof.Machine

open Sys2Proof

variable {s : State} {spm spt c t : Word}

/-! ### The target (R150, R151) -/

/-- `inc_tgt` is the sum cut off at MAXH. -/
theorem incTgt_toNat {maxh : Word} (h : t.toNat ≤ maxh.toNat) :
    (incTgt maxh spm t).toNat = min (t.toNat + spm.toNat) maxh.toNat := by
  unfold incTgt
  split
  case isTrue hlt => omega
  case isFalse hge =>
    rw [BitVec.toNat_add_of_lt (by omega)]
    omega

/-- `dec_tgt` is the difference cut off at 0. -/
theorem decTgt_toNat (spm t : Word) : (decTgt spm t).toNat = t.toNat - spm.toNat := by
  unfold decTgt
  split
  case isTrue hlt =>
    rw [BitVec.toNat_zero]
    bv_omega
  case isFalse hge => exact BitVec.toNat_sub_of_le (BitVec.not_lt.1 hge)

/-- No sequence of encoder events takes the target above MAXH: neither function does. -/
theorem foldl_turns_le {maxh : Word} (spm : Word) (events : List Bool) (h : t.toNat ≤ maxh.toNat) :
    (events.foldl (fun u cw => if cw then incTgt maxh spm u else decTgt spm u) t).toNat ≤ maxh.toNat := by
  induction events generalizing t with
  | nil => exact h
  | cons cw events ih =>
    refine ih ?_
    cases cw with
    | true => exact (incTgt_toNat h).trans_le (Nat.min_le_right _ _)
    | false => exact (decTgt_toNat spm t).trans_le ((Nat.sub_le _ _).trans h)

/-- Settles O5: under `t <= MAXH` the room of R150 is the exact difference, so that both functions are their formulas,
and the formulas are the cut-off sum and difference. -/
theorem targetSaturates : Obligations.TargetSaturates := by
  intro maxh spm t h
  have hroom : (maxh - t).toNat = maxh.toNat - t.toNat := BitVec.toNat_sub_of_le h
  refine ⟨?_, incTgt_toNat h, rfl, decTgt_toNat spm t, fun events => foldl_turns_le spm events h⟩
  rw [hroom]
  rfl

/-! ### The step count and the new height (R152) -/

theorem distance_comm (c t : Word) : distance c t = distance t c :=
  Nat.add_comm _ _

theorem distance_of_le (h : c ≤ t) : distance c t = t.toNat - c.toNat := by
  rw [distance, Nat.sub_eq_zero_of_le h, Nat.zero_add]

theorem distance_eq_zero : distance c t = 0 ↔ c = t := by
  rw [distance]
  exact ⟨fun h => BitVec.eq_of_toNat_eq (by omega), fun h => by subst h; omega⟩

theorem absDiff_toNat_eq_distance (c t : Word) : (absDiff c t).toNat = distance c t := by
  rcases BitVec.le_total c t with h | h
  · rw [absDiff_toNat h, distance_of_le h]
  · rw [absDiff_comm, absDiff_toNat h, distance_comm, distance_of_le h]

/-- The step count is the distance, clamped by SPT. -/
theorem stepCount_toNat (spt c t : Word) : (stepCount spt c t).toNat = min spt.toNat (distance c t) := by
  rw [← absDiff_toNat_eq_distance]
  unfold stepCount
  split
  case isTrue hle => exact (Nat.min_eq_left hle).symm
  case isFalse hgt => exact (Nat.min_eq_right (Nat.le_of_not_le hgt)).symm

/-- Below the target the step count is added without wrapping. -/
theorem add_stepCount_toNat (h : c ≤ t) : (c + stepCount spt c t).toNat = c.toNat + (stepCount spt c t).toNat :=
  BitVec.toNat_add_of_lt ((add_stepCount_le h).trans_lt t.isLt)

/-- Above the target the step count is taken off without wrapping. -/
theorem sub_stepCount_toNat (h : t ≤ c) : (c - stepCount spt c t).toNat = c.toNat - (stepCount spt c t).toNat := by
  have hle := add_stepCount_le (spt := spt) h
  rw [stepCount_comm] at hle
  exact BitVec.toNat_sub_of_le (Nat.le_of_add_left_le hle)

/-- Settles O6: the count is the clamped distance, and neither new height passes the target. -/
theorem stepCountIsClamped : Obligations.StepCountIsClamped := by
  intro spt c t hne hspt
  have hn := stepCount_toNat spt c t
  have hdist : distance c t ≠ 0 := fun h => hne (distance_eq_zero.1 h)
  have hpos : spt.toNat ≠ 0 := fun h => hspt (BitVec.eq_of_toNat_eq h)
  refine ⟨hn, by omega, by omega, by omega, fun hlt => ?below, fun hlt => ?above⟩
  case below =>
    have hle : c ≤ t := Nat.le_of_lt hlt
    exact ⟨add_stepCount_toNat hle, (add_stepCount_toNat hle).trans_le (add_stepCount_le hle)⟩
  case above =>
    have hle : t ≤ c := Nat.le_of_lt hlt
    have hd := distance_of_le hle
    rw [distance_comm] at hd
    exact ⟨sub_stepCount_toNat hle, by rw [sub_stepCount_toNat hle]; omega⟩

/-! ### The frame that shows the state (R153, R154) -/

theorem frameOf_uncalibrated (h : s.cur = none) : frameOf s = .calibrating := by
  simp only [frameOf, h]

theorem frameOf_tracking (h : s.cur ≠ none) : frameOf s = .height (mmOf s.cfg.spm s.tgt) := by
  obtain ⟨c, hc⟩ := Option.ne_none_iff_exists'.1 h
  simp only [frameOf, hc]

/-- `mm_of` divides and rounds down. -/
theorem mmOf_toNat (h : spm ≠ 0#32) (t : Word) : (mmOf spm t).toNat = t.toNat / spm.toNat := by
  rw [mmOf, if_neg h, BitVec.toNat_udiv]

/-- Settles O7: the quotient of a target of at most `MAX_MM` times `SPM` is at most `MAX_MM`. -/
theorem frameShowsTargetInMillimetres : Obligations.FrameShowsTargetInMillimetres := by
  refine fun s => ⟨frameOf_uncalibrated, fun hcur hspm => ⟨_, frameOf_tracking hcur, mmOf_toNat hspm _, fun hle => ?_⟩⟩
  rw [mmOf_toNat hspm]
  exact Nat.div_le_of_le_mul (by rwa [Nat.mul_comm])

end Sys2Proof.Machine
end

section
/-! PROOFS. The bodies of the three interrupt handlers (42_height_controller.md R158 to R160, R164): O26, O28, O29. Each
ends in a refresh of the display, which has one equation for a granted write and one for a failing write; what is left is
what each body does before its refresh. -/

namespace Sys2Proof.Machine

open Sys2Proof

variable {s s' t : State} {mm : Word} {kind : DisplayFailure}

/-! ### A train leaves the registers (R135) -/

@[simp] theorem State.rotated_tgt (s : State) (d : Bool) (n : Nat) : (s.rotated d n).tgt = s.tgt := s.passes_tgt _
@[simp] theorem State.rotated_cur (s : State) (d : Bool) (n : Nat) : (s.rotated d n).cur = s.cur := s.passes_cur _
@[simp] theorem State.rotated_cd (s : State) (d : Bool) (n : Nat) : (s.rotated d n).cd = s.cd := s.passes_cd _
@[simp] theorem State.rotated_cdV (s : State) (d : Bool) (n : Nat) : (s.rotated d n).cdV = s.cdV := s.passes_cdV _
@[simp] theorem State.rotated_cfg (s : State) (d : Bool) (n : Nat) : (s.rotated d n).cfg = s.cfg := s.passes_cfg _
@[simp] theorem State.rotated_masked (s : State) (d : Bool) (n : Nat) : (s.rotated d n).masked = s.masked :=
  s.passes_masked _
@[simp] theorem State.rotated_ctx (s : State) (d : Bool) (n : Nat) : (s.rotated d n).ctx = s.ctx := s.passes_ctx _
@[simp] theorem State.rotated_disp (s : State) (d : Bool) (n : Nat) : (s.rotated d n).disp = s.disp := s.passes_disp _

/-! ### A refresh of the display (R64, R154, R195) -/

theorem dispUpdate_calibrating (hg : s.granted = true) : dispUpdate .calibrating s = .ret () (s.shown .calibrating) :=
  dispWrite_granted .calibrating hg

/-- In Tracking a refresh shows the target in millimetres. -/
theorem dispUpdate_target (hg : s.granted = true) (hcur : s.cur ≠ none) (hspm : s.cfg.spm ≠ 0#32)
    (hmm : mm.toNat = s.tgt.toNat / s.cfg.spm.toNat) (hfit : mm.toNat ≤ 99) :
    dispUpdate (frameOf s) s = .ret () (s.shown (.height mm)) := by
  have hq : mmOf s.cfg.spm s.tgt = mm := BitVec.eq_of_toNat_eq ((mmOf_toNat hspm _).trans hmm.symm)
  have hfits : fitsDisplay mm = true := decide_eq_true (Nat.lt_succ_of_le hfit)
  rw [frameOf_tracking hcur, hq, dispUpdate, dispWrite_granted _ hg, shownFrame_of_fits hfits]

theorem dispUpdate_failed (hio : s.cfg.ioFaults = true) (ha : s.instant.answer = .fails kind) (f : Frame) :
    dispUpdate f s = raise (.display kind) s.pass := by
  obtain ⟨hg, hk⟩ := State.failing hio ha
  rw [dispUpdate, dispWrite_failed f hg, hk]

theorem dispUpdate_cur (f : Frame) (s : State) : (dispUpdate f s).st.cur = s.cur := by
  unfold dispUpdate
  cases hg : s.granted with
  | true => rw [dispWrite_granted f hg]; rfl
  | false => rw [dispWrite_failed f hg]; rfl

/-- A legal request whose run ends in a failed refresh halts with the DisplayFault of that kind. -/
theorem runIf_of_display_failed {legal : Bool} {r : Run Unit} (hl : legal = true)
    (hr : r = raise (.display kind) t) : runIf legal r = .next (t.haltedWith (displayCode kind)) := by
  rw [runIf_of_raise hl hr, latch_display]

/-! ### HOME_EDGE (R159) -/

/-- Settles O28: HOME_EDGE drops the height and makes one display write. -/
theorem homeEdgeForcesRecalibration : Obligations.HomeEdgeForcesRecalibration :=
  ⟨rfl, fun s => ⟨fun hm hc hg =>
      runIf_of_ret ((s.inBody_iff _).2 ⟨hm, hc⟩) (dispUpdate_calibrating (s := s.setCur none) hg),
    fun _ hm hc hio ha =>
      runIf_of_display_failed ((s.inBody_iff _).2 ⟨hm, hc⟩) (dispUpdate_failed (s := s.setCur none) hio ha _),
    fun h => runIf_refused ((s.inBody_false _).2 h)⟩⟩

/-! ### ENC_EDGE with a rotation (R158, R164) -/

/-- QD.UPDATE leaves the height, the mode of the cooldown and what bounds the target. -/
theorem DecodeStep.keeps_height {r : Rotation} (h : DecodeStep s s' r) :
    s'.cur = s.cur ∧ s'.cfg = s.cfg ∧ s'.maxh = s.maxh := by
  cases h <;> exact ⟨rfl, rfl, rfl⟩

/-- Opening the cooldown window writes what R158 says, under either discipline. -/
theorem WindowOpened.openCooldown_eq (h : WindowOpened s s') : openCooldown s = .ret () s' := by
  cases h with
  | counter hd => simp only [openCooldown, hd]; rfl
  | clock hd => simp only [openCooldown, hd]; rfl

theorem WindowOpened.frame (h : WindowOpened s s') : s'.tgt = s.tgt ∧ s'.cur = s.cur ∧ s'.cfg = s.cfg := by
  cases h <;> exact ⟨rfl, rfl, rfl⟩

/-- The target after a rotation, as an exact number (R150, R151). -/
theorem turnedTarget_toNat {r : Rotation} (hr : r ≠ .none) (h : s.tgt.toNat ≤ s.maxh.toNat) :
    (turnedTarget r s).toNat =
      if r = .cw then min (s.tgt.toNat + s.cfg.spm.toNat) s.maxh.toNat else s.tgt.toNat - s.cfg.spm.toNat := by
  cases r with
  | none => exact absurd rfl hr
  | cw => exact incTgt_toNat h
  | ccw => exact decTgt_toNat s.cfg.spm s.tgt

/-- ENC_EDGE that decodes a rotation turns the target, opens the window, and refreshes the display only where the target
moved. -/
theorem encEdgeBody_turns {s1 s2 : State} {r : Rotation} (h : DecodeStep s s1 r) (hr : r ≠ .none)
    (hw : WindowOpened (s1.setTgt (turnedTarget r s1)) s2) :
    encEdgeBody s = if turnedTarget r s1 ≠ s1.tgt then dispUpdate (frameOf s2) s2 else .ret () s2 := by
  have hturn : encEdgeBody s = turn r s1 := by
    rw [encEdgeBody, h.qdUpdate_eq, Run.ret_bind]
    cases r with
    | none => exact absurd rfl hr
    | cw | ccw => rfl
  obtain ⟨htgt, -⟩ := hw.frame
  rw [hturn, turn, hw.openCooldown_eq, Run.ret_bind, htgt, State.setTgt_tgt]

/-- Settles O26: the new target is the one R150 and R151 give, and the rest is the refresh of the display. -/
theorem encEdgeTurnsTarget : Obligations.EncEdgeTurnsTarget := by
  intro s s1 s2 r t' hm hc hdec hr hmax ht' hw
  obtain ⟨htgt1, -⟩ := hdec.frame
  obtain ⟨hcur1, hcfg1, hmaxh1⟩ := hdec.keeps_height
  have hturned : turnedTarget r s1 = t' := by
    refine BitVec.eq_of_toNat_eq (.trans (turnedTarget_toNat hr (by rwa [htgt1, hmaxh1])) ?_)
    rw [htgt1, hcfg1, hmaxh1, ht']
  subst hturned
  obtain ⟨htgt2, hcur2, hcfg2⟩ := hw.frame
  have hlegal := (s.inBody_iff .hEnc).2 ⟨hm, hc⟩
  have hbody := encEdgeBody_turns hdec hr hw
  rw [htgt1] at hbody
  refine ⟨fun hsame => ?same, fun hne hnone hg => ?uncalibrated, fun mm hne hcur hg hspm hmm hfit => ?tracking,
    fun kind hne hio ha => ?failed⟩
  case same => exact runIf_of_ret hlegal (hbody.trans (if_neg (not_not_intro hsame)))
  case uncalibrated =>
    have hframe : frameOf s2 = .calibrating := frameOf_uncalibrated ((hcur2.trans hcur1).trans hnone)
    rw [if_pos hne, hframe, dispUpdate_calibrating hg] at hbody
    exact runIf_of_ret hlegal hbody
  case tracking =>
    have hcfg : s2.cfg = s.cfg := hcfg2.trans hcfg1
    rw [if_pos hne, dispUpdate_target (mm := mm) hg (by rwa [hcur2, hcur1]) (by rwa [hcfg]) (by rwa [htgt2, hcfg])
      hfit] at hbody
    exact runIf_of_ret hlegal hbody
  case failed =>
    have hio2 : s2.cfg.ioFaults = true := by rwa [hcfg2, hcfg1]
    rw [if_pos hne, dispUpdate_failed hio2 ha] at hbody
    exact runIf_of_display_failed hlegal hbody

/-! ### LIMIT_EDGE (R160, R165) -/

theorem exec_limitEdge_with_sensor (h : s.cfg.hasLimit = true) :
    exec .limitEdge s = runIf (s.inBody .hLimit) (limitEdgeBody s) :=
  if_pos h

/-- LIMIT_EDGE whose move is granted, or that has none to make, records the offset and refreshes the display. -/
theorem limitEdgeBody_moved
    (hs' : s' = if s.cfg.limitOfs = 0#32 then s else s.rotated (!s.cfg.dirHome) s.cfg.limitOfs.toNat)
    (hg : s.cfg.limitOfs ≠ 0#32 → s.grants (rotateAccesses s.sgEn s.cfg.limitOfs.toNat)) :
    limitEdgeBody s = dispUpdate (frameOf s'.atLimit) s'.atLimit := by
  by_cases h0 : s.cfg.limitOfs = 0#32
  · rw [if_pos h0] at hs'
    have hstill : ¬0#32 < s.cfg.limitOfs := by rw [h0]; exact BitVec.lt_irrefl _
    rw [limitEdgeBody, limitMove, if_neg hstill, Run.ret_bind, hs']
  · rw [if_neg h0] at hs'
    rw [limitEdgeBody_moving h0, sgRotate_granted _ _ (hg h0), Run.ret_bind, hs']
    rfl

/-- LIMIT_EDGE whose move fails first at access `k`: the events before it stand, the fault is that of the line whose write
failed, and height, target and display are as before (R136, R160). -/
theorem limitEdgeBody_move_failed {k : Nat} (h0 : s.cfg.limitOfs ≠ 0#32)
    (hk : k < rotateAccesses s.sgEn s.cfg.limitOfs.toNat) (hg : s.grants k) (hf : (s.passes k).granted = false) :
    ∃ u p b, limitEdgeBody s = raise (.io (OutPin.role p)) u ∧ u.cur = s.cur ∧ u.tgt = s.tgt ∧ u.disp = s.disp ∧
      u.fault = s.fault ∧
      u.hist = s.hist ++ (rotateEvents s.sgEn (!s.cfg.dirHome) s.cfg.limitOfs.toNat).take k ∧
      (rotateEvents s.sgEn (!s.cfg.dirHome) s.cfg.limitOfs.toNat)[k]? = some (.pin p b) := by
  have hk' : k < (rotateWrites s.sgEn (awayFromHome s.cfg) s.cfg.limitOfs.toNat).length := by rwa [rotateWrites_length]
  obtain ⟨w, hw⟩ : ∃ w, (rotateWrites s.sgEn (awayFromHome s.cfg) s.cfg.limitOfs.toNat)[k]? = some w :=
    ⟨_, List.getElem?_eq_getElem hk'⟩
  have hbody := limitEdgeBody_moving h0
  rw [sgRotate_failed hg hf hw, raise_bind] at hbody
  refine ⟨_, w.1, w.2, hbody, s.written_cur _, s.written_tgt _, s.written_disp _, s.written_fault _, ?hist, ?event⟩
  case hist =>
    rw [← rotateWrites_events, ← List.map_take]
    exact s.written_hist _
  case event =>
    rw [← rotateWrites_events, List.getElem?_map]
    exact congrArg (Option.map eventOf) hw

/-- Settles O29: the move is one SG.ROTATE or nothing, and what follows it is the refresh at the recorded offset. -/
theorem limitEdgeRecordsOffset : Obligations.LimitEdgeRecordsOffset := by
  refine ⟨rfl, fun s s' hlim hs' => ?_⟩
  have hcfg : s'.cfg = s.cfg := by
    rw [hs']
    split
    · rfl
    · exact s.rotated_cfg _ _
  have hat : s'.atLimit = { s' with cur := some s.cfg.limitOfs, tgt := s.cfg.limitOfs } := by rw [← hcfg]; rfl
  rw [exec_limitEdge_with_sensor hlim]
  refine ⟨fun mm hm hc hmove hg hspm hmm hfit => ?shown, fun kind hm hc hmove hio ha => ?failed,
    fun k hm hc h0 hk hg hf => ?aborted, fun h => runIf_refused ((s.inBody_false _).2 h)⟩
  case shown =>
    have hbody := limitEdgeBody_moved hs' hmove
    rw [dispUpdate_target (s := s'.atLimit) (mm := mm) hg (by simp) (by simpa [hcfg] using hspm)
      (by simpa [hcfg] using hmm) hfit, hat] at hbody
    exact runIf_of_ret ((s.inBody_iff _).2 ⟨hm, hc⟩) hbody
  case failed =>
    have hbody := limitEdgeBody_moved hs' hmove
    rw [dispUpdate_failed (s := s'.atLimit) (by simpa [hcfg] using hio) ha, hat] at hbody
    exact runIf_of_display_failed ((s.inBody_iff _).2 ⟨hm, hc⟩) hbody
  case aborted =>
    obtain ⟨u, p, b, hbody, hcur, htgt, hdisp, hfault, hhist, hevent⟩ := limitEdgeBody_move_failed h0 hk hg hf
    exact ⟨_, p, b, runIf_of_raise ((s.inBody_iff _).2 ⟨hm, hc⟩) hbody, rfl, hcur, htgt, hdisp, hhist, hevent,
      fun hv => State.haltedWith_fault (by rw [State.faultValid, hfault]; exact hv) _⟩

end Sys2Proof.Machine
end

section
/-! PROOFS. The body TICK (42_height_controller.md R156, R157, R161, R162): O18 to O22. After the cooldown test, which is
one case of R156, TICK is idle, moves or homes; the move and the homing step are one train, and the homing step goes on to
read HOME. -/

namespace Sys2Proof.Machine

open Sys2Proof

variable {s s' t : State} {b : Bool} {c mm : Word} {kind : DisplayFailure}

/-! ### The cooldown test around a TICK (R156, R157) -/

theorem CooldownStep.keeps_control (h : CooldownStep s s' b) :
    s'.masked = s.masked ∧ s'.ctx = s.ctx ∧ s'.oMs = s.oMs ∧ s'.disp = s.disp := by
  cases h <;> exact ⟨rfl, rfl, rfl, rfl⟩

theorem exec_tick_legal (hm : s.masked = true) (hc : s.ctx = .fgTick) : exec .tick s = .next (tickBody s).st :=
  runIf_legal ((s.inBody_iff _).2 ⟨hm, hc⟩)

/-- A Tracking TICK that is suppressed, or at its target, does no more than the cooldown test. -/
theorem tickBody_idle (h : CooldownStep s s' b) (hcur : s.cur = some c) (hidle : b = true ∨ c = s.tgt) :
    tickBody s = .ret () s' := by
  obtain ⟨hcur', htgt, -⟩ := h.frame
  rw [tickBody, h.cooldownTest_eq, Run.ret_bind, hcur', hcur, htgt]
  refine if_neg fun ⟨hne, hb⟩ => ?_
  rcases hidle with rfl | rfl
  · cases hb
  · exact hne rfl

/-- Under ElapsedTime `COOLDOWN = 0` has always passed. -/
theorem CooldownStep.unsuppressed_of_zero (h : CooldownStep s s' b) (hd : s.cfg.deb = .elapsedTime)
    (h0 : s.cfg.cooldown = 0#32) : b = false := by
  cases h with
  | counted hd' h => rw [hd] at hd'; cases hd'
  | idleCounter | idleClock | expired => rfl
  | open_ _ _ ht =>
    rw [h0] at ht
    exact absurd ht (Nat.not_lt_zero _)

/-- Under TickCounter a window opened with `COOLDOWN = 0` is over at once. -/
theorem WindowOpened.unsuppressed_of_zero (h : WindowOpened s s') (hd : s.cfg.deb = .tickCounter)
    (h0 : s.cfg.cooldown = 0#32) : CooldownStep s' s' false := by
  cases h with
  | counter => exact .idleCounter hd h0
  | clock hd' => rw [hd] at hd'; cases hd'

/-- Settles O18: the cases of R156 are what the test does, and only the Tracking branch of TICK looks at its answer. -/
theorem cooldownGatesTrackingOnly : Obligations.CooldownGatesTrackingOnly := by
  refine ⟨fun _ _ _ => CooldownStep.cooldownTest_eq, fun s => ?total, fun _ _ _ => CooldownStep.unsuppressed_of_zero,
    fun _ hd h0 _ hw => hw.unsuppressed_of_zero hd h0, fun s s' c hm hc h hcur => ?suppressed,
    fun _ _ _ => tickBody_homes⟩
  case total =>
    obtain ⟨s', b, h, -⟩ := cooldownTest_ret s
    exact ⟨s', b, h⟩
  case suppressed => rw [exec_tick_legal hm hc, tickBody_idle h hcur (.inl rfl), Run.ret_st]

/-- Settles O19: at the target TICK ends with the cooldown test, which writes the cooldown state alone. -/
theorem tickAtTargetIsIdle : Obligations.TickAtTargetIsIdle := by
  intro s s' b hm hc h hcur
  obtain ⟨hcur', htgt, -, -, hlines, hhist⟩ := h.frame
  obtain ⟨-, -, hms, hdisp⟩ := h.keeps_control
  have hrun : exec .tick s = .next s' := by
    rw [exec_tick_legal hm hc, tickBody_idle h hcur (.inr rfl), Run.ret_st]
  exact ⟨hrun, htgt, hcur', hlines, hms, hdisp, hhist⟩

/-! ### The Tracking move (R152, R162 (b)) -/

/-- The height after one move from `c` with the target `t` (R152, R157). -/
def movedHeight (spt c t : Word) : Word :=
  if c < t then c + stepCount spt c t else c - stepCount spt c t

/-- The level of the Direction line that moves from `c` toward the target `t` (R18, R157). -/
def moveDirection (cfg : Cfg) (c t : Word) : Bool :=
  if c < t then awayFromHome cfg else cfg.dirHome

theorem tickMove_eq (c : Word) (s : State) :
    tickMove c s = (sgRotate (moveDirection s.cfg c s.tgt) (stepCount s.cfg.spt c s.tgt) s).bind fun _ u =>
      .ret () (u.setCur (some (movedHeight s.cfg.spt c s.tgt))) := by
  unfold tickMove moveDirection movedHeight
  split <;> rfl

/-- A move whose train is granted ends at the new height. -/
theorem tickMove_granted (hg : s.grants (rotateAccesses s.sgEn (stepCount s.cfg.spt c s.tgt).toNat)) :
    tickMove c s = .ret () ((s.rotated (moveDirection s.cfg c s.tgt) (stepCount s.cfg.spt c s.tgt).toNat).setCur
      (some (movedHeight s.cfg.spt c s.tgt))) := by
  rw [tickMove_eq, sgRotate_granted _ _ hg, Run.ret_bind]

/-- The new height lies the step count nearer to the target; nothing wraps. -/
theorem movedHeight_toNat (spt c t : Word) :
    (movedHeight spt c t).toNat =
      if c.toNat < t.toNat then c.toNat + (stepCount spt c t).toNat else c.toNat - (stepCount spt c t).toNat := by
  unfold movedHeight
  split
  case isTrue hlt => exact (add_stepCount_toNat (BitVec.le_of_lt hlt)).trans (if_pos hlt).symm
  case isFalse hge => exact (sub_stepCount_toNat (BitVec.not_lt.1 hge)).trans (if_neg hge).symm

/-- An unsuppressed Tracking TICK off its target whose train is granted makes one move. -/
theorem exec_tick_moves (hm : s.masked = true) (hc : s.ctx = .fgTick) (h : CooldownStep s s' false)
    (hcur : s.cur = some c) (hne : c ≠ s.tgt)
    (hg : s'.grants (rotateAccesses s.sgEn (stepCount s.cfg.spt c s.tgt).toNat)) :
    exec .tick s = .next ((s'.rotated (moveDirection s.cfg c s.tgt) (stepCount s.cfg.spt c s.tgt).toNat).setCur
      (some (movedHeight s.cfg.spt c s.tgt))) := by
  obtain ⟨-, htgt, hcfg, hsg, -⟩ := h.frame
  rw [exec_tick_legal hm hc, tickBody_moves h hcur hne, tickMove_granted (by rwa [htgt, hcfg, hsg]), Run.ret_st,
    htgt, hcfg]

/-- Settles O20: the number of steps is the step count of R152. -/
theorem tickMovesTowardTarget : Obligations.TickMovesTowardTarget := by
  intro s s' c n hm hc h hcur hne hn hg
  rw [← stepCount_toNat] at hn
  subst hn
  exact ⟨movedHeight s.cfg.spt c s.tgt, movedHeight_toNat _ _ _, exec_tick_moves hm hc h hcur hne hg⟩

/-! ### The homing step (R157, R161) -/

/-- The homing step with its train granted, up to its read of HOME. -/
theorem tickHoming_train (hg : s.grants (rotateAccesses s.sgEn s.cfg.homingSteps.toNat)) :
    tickHoming s = (pinRead .home (s.rotated s.cfg.dirHome s.cfg.homingSteps.toNat)).bind fun h u =>
      if h then dispUpdate (frameOf (u.setCur (some u.cfg.homeOfs))) (u.setCur (some u.cfg.homeOfs)) else .ret () u := by
  rw [tickHoming, sgRotate_granted _ _ hg, Run.ret_bind]

/-- The homing step whose read of HOME is granted: calibration if it reads 1, nothing more if it reads 0. -/
theorem tickHoming_read {w : State} (hg : s.grants (rotateAccesses s.sgEn s.cfg.homingSteps.toNat))
    (hw : w = s.rotated s.cfg.dirHome s.cfg.homingSteps.toNat) (hr : w.granted = true) :
    tickHoming s = if w.pass.level .home = true then
      dispUpdate (frameOf (w.pass.setCur (some s.cfg.homeOfs))) (w.pass.setCur (some s.cfg.homeOfs))
      else .ret () w.pass := by
  subst hw
  rw [tickHoming_train hg, pinRead_granted _ hr, Run.ret_bind, State.pass_cfg, State.rotated_cfg]

/-- The homing step whose read of HOME fails. -/
theorem tickHoming_read_failed {w : State} (hg : s.grants (rotateAccesses s.sgEn s.cfg.homingSteps.toNat))
    (hw : w = s.rotated s.cfg.dirHome s.cfg.homingSteps.toNat) (hr : w.granted = false) :
    tickHoming s = raise (.io .home) w.pass := by
  subst hw
  rw [tickHoming_train hg, pinRead_failed _ hr, raise_bind]
  rfl

/-- Settles O21: the train is one SG.ROTATE, the read of HOME is the next access, and calibration ends in the refresh of
the display. -/
theorem tickHomesAndCalibrates : Obligations.TickHomesAndCalibrates := by
  intro s s' w u b hm hc h hcur hg hw hu
  obtain ⟨hcur', htgt, hcfg, hsg, -, hhist⟩ := h.frame
  obtain ⟨-, -, -, hdisp⟩ := h.keeps_control
  have hlegal := (s.inBody_iff .fgTick).2 ⟨hm, hc⟩
  have hbody := tickBody_homes h hcur
  have hhistw : w.hist = s.hist ++ rotateEvents s.sgEn s.cfg.dirHome s.cfg.homingSteps.toNat := by
    rw [hw, ← hhist, ← hsg]
    rfl
  have htgtw : w.tgt = s.tgt := by rw [hw, State.rotated_tgt, htgt]
  have hcfgw : w.cfg = s.cfg := by rw [hw, State.rotated_cfg, hcfg]
  rw [← hsg, ← hcfg] at hg
  rw [← hcfg] at hw
  subst hu
  refine ⟨fun hr => ⟨?fails, ?cur, htgtw, ?disp, hhistw⟩, fun hr h0 => ?low,
    fun mm hr h1 hgd hspm hmm hfit => ?calibrated, fun kind hr h1 hio ha => ?display⟩
  case fails => exact runIf_of_raise hlegal (hbody.trans (tickHoming_read_failed hg hw hr))
  case cur => rw [State.pass_cur, hw, State.rotated_cur, hcur', hcur]
  case disp => rw [State.pass_disp, hw, State.rotated_disp, hdisp]
  case low =>
    rw [tickHoming_read hg hw hr, h0, if_neg Bool.false_ne_true] at hbody
    exact runIf_of_ret hlegal hbody
  case calibrated =>
    rw [tickHoming_read hg hw hr, if_pos h1,
      dispUpdate_target (s := w.pass.setCur (some s'.cfg.homeOfs)) (mm := mm) hgd (by simp) (by simpa [hcfgw] using hspm)
        (by simpa [hcfgw, htgtw] using hmm) hfit, hcfg] at hbody
    exact runIf_of_ret hlegal hbody
  case display =>
    rw [tickHoming_read hg hw hr, if_pos h1,
      dispUpdate_failed (s := w.pass.setCur (some s'.cfg.homeOfs)) (by simpa [hcfgw] using hio) ha, hcfg] at hbody
    exact runIf_of_display_failed hlegal hbody

/-- A homing step that leaves a height has read HOME as 1 at the access after its train, and the height is `HOME_OFS`. -/
theorem tickHoming_calibrates (hcur : s.cur = none) (h : (tickHoming s).st.cur ≠ none) :
    (tickHoming s).st.cur = some s.cfg.homeOfs ∧
      (s.rotated s.cfg.dirHome s.cfg.homingSteps.toNat).pass.level .home = true := by
  rcases sgRotate_cases s.cfg.dirHome s.cfg.homingSteps s with ⟨hg, -⟩ | ⟨k, w, -, -, -, -, hr⟩
  · generalize hw : s.rotated s.cfg.dirHome s.cfg.homingSteps.toNat = w
    have hnone : w.cur = none := by rw [← hw, State.rotated_cur, hcur]
    cases hr : w.granted with
    | false =>
      rw [tickHoming_read_failed hg hw.symm hr] at h
      exact absurd hnone h
    | true =>
      rw [tickHoming_read hg hw.symm hr] at h ⊢
      split at h
      case isTrue h1 => exact ⟨by rw [if_pos h1, dispUpdate_cur, State.setCur_cur], h1⟩
      case isFalse => exact absurd hnone h
  · rw [tickHoming, hr, raise_bind] at h
    exact absurd ((s.written_cur _).trans hcur) h

/-- Settles O22: HOME is read in the environment that the accesses of the train lead to. -/
theorem calibrationNeedsHome : Obligations.CalibrationNeedsHome := by
  intro s s' t b h he hcur hne
  obtain ⟨hcur', -, hcfg, hsg, -⟩ := h.frame
  obtain ⟨-, rfl⟩ := runIf_next.1 he
  rw [tickBody_homes h hcur] at hne ⊢
  obtain ⟨hofs, hhome⟩ := tickHoming_calibrates (hcur'.trans hcur) hne
  refine ⟨by rw [hofs, hcfg], ?_⟩
  have hworld := (sameWorld_rotated s' s'.cfg.dirHome s'.cfg.homingSteps.toNat).pass.level .home
  rw [State.passes_add, ← hsg, ← hcfg, State.passes_one, hworld, hhome]

end Sys2Proof.Machine
end

section
/-! PROOFS. TICKs in a row (42_height_controller.md R163): O23. In a block whose TICKs are granted and not suppressed,
each TICK takes SPT off the distance to the target, cut off at 0, and leaves such a block; the rest is division. -/

namespace Sys2Proof.Machine

open Sys2Proof

variable {s s' t : State} {c : Word}

/-! ### One move, as a distance (R152) -/

theorem distance_movedHeight (spt c t : Word) : distance (movedHeight spt c t) t = distance c t - spt.toNat := by
  have hn := stepCount_toNat spt c t
  have hm := movedHeight_toNat spt c t
  unfold distance at hn ⊢
  split at hm <;> omega

/-- A move passes neither the height it began at nor the target. -/
theorem movedHeight_between (spt c t : Word) :
    min c.toNat t.toNat ≤ (movedHeight spt c t).toNat ∧ (movedHeight spt c t).toNat ≤ max c.toNat t.toNat := by
  have hn := stepCount_toNat spt c t
  have hm := movedHeight_toNat spt c t
  unfold distance at hn
  split at hm <;> omega

theorem movedHeight_at_target (spt t : Word) : movedHeight spt t t = t := by
  rw [← distance_eq_zero, distance_movedHeight, distance_eq_zero.2 rfl, Nat.zero_sub]

/-! ### A block whose TICKs move freely -/

/-- A TICK is legal, every access to come is granted, and the cooldown test does not suppress the move. -/
structure State.TicksFreely (s : State) : Prop where
  masked : s.masked = true
  ctx : s.ctx = .fgTick
  granted : ∀ n, s.grants n
  unsuppressed : ∃ s', CooldownStep s s' false

/-- After a cooldown test that does not suppress, no window is open: the next one answers at once. -/
theorem CooldownStep.window_over (h : CooldownStep s s' false) :
    (s'.cfg.deb = .tickCounter ∧ s'.cd = 0#32) ∨ (s'.cfg.deb = .elapsedTime ∧ s'.cdV = false) := by
  cases h with
  | idleCounter hd h => exact .inl ⟨hd, h⟩
  | idleClock hd h => exact .inr ⟨hd, h⟩
  | expired hd => exact .inr ⟨hd, rfl⟩

/-- The cooldown test makes at most one access, so that what is granted after it was granted before. -/
theorem CooldownStep.grants_all (h : CooldownStep s s' false) (hg : ∀ n, s.grants n) (n : Nat) : s'.grants n := by
  cases h with
  | idleCounter | idleClock => exact hg n
  | expired =>
    have hpass : s.pass.grants n := ((s.grants_succ n).1 (hg (n + 1))).2
    exact SameWorld.grants (s := s.pass) (t := s.pass.setCdV false) ⟨rfl, rfl, rfl, rfl⟩ hpass

theorem sameWorld_setCur (s : State) (v : Option Word) : SameWorld s (s.setCur v) :=
  ⟨rfl, rfl, rfl, rfl⟩

/-- Where the test does not suppress, the state after it, moved or not, ticks freely too. -/
theorem State.TicksFreely.after (hs : s.TicksFreely) (h : CooldownStep s s' false) {k : Nat}
    (hw : SameWorld (s'.passes k) t) (hm : t.masked = s'.masked) (hx : t.ctx = s'.ctx) (hcd : t.cd = s'.cd)
    (hcdV : t.cdV = s'.cdV) : t.TicksFreely where
  masked := by rw [hm, h.keeps_control.1, hs.masked]
  ctx := by rw [hx, h.keeps_control.2.1, hs.ctx]
  granted n := hw.grants ((s'.grants_add k n).1 (h.grants_all hs.granted _)).2
  unsuppressed := by
    have hcfg : t.cfg = s'.cfg := hw.cfg.symm.trans (s'.passes_cfg k)
    rcases h.window_over with ⟨hd, h0⟩ | ⟨hd, h0⟩
    · exact ⟨t, .idleCounter (by rw [hcfg, hd]) (by rw [hcd, h0])⟩
    · exact ⟨t, .idleClock (by rw [hcfg, hd]) (by rw [hcdV, h0])⟩

/-- One TICK of a block that ticks freely. -/
theorem State.TicksFreely.exec_tick (hs : s.TicksFreely) (hcur : s.cur = some c) :
    ∃ t, exec .tick s = .next t ∧ t.TicksFreely ∧ t.cur = some (movedHeight s.cfg.spt c s.tgt) ∧ t.tgt = s.tgt ∧
      t.cfg = s.cfg := by
  obtain ⟨s', h⟩ := hs.unsuppressed
  obtain ⟨hcur', htgt, hcfg, -⟩ := h.frame
  by_cases hc : c = s.tgt
  · refine ⟨s', ?_, hs.after h (k := 0) (.refl s') rfl rfl rfl rfl, ?_, htgt, hcfg⟩
    · rw [exec_tick_legal hs.masked hs.ctx, tickBody_idle h hcur (.inr hc), Run.ret_st]
    · rw [hc, movedHeight_at_target, hcur', hcur, hc]
  · refine ⟨_, exec_tick_moves hs.masked hs.ctx h hcur hc (h.grants_all hs.granted _), ?_, rfl, ?_, ?_⟩
    · exact hs.after h ((sameWorld_rotated s' _ _).trans (sameWorld_setCur _ _)) (by simp) (by simp) (by simp) (by simp)
    · rw [State.setCur_tgt, State.rotated_tgt, htgt]
    · rw [State.setCur_cfg, State.rotated_cfg, hcfg]

/-- `j` TICKs of a block that ticks freely: the distance falls by SPT each, and the height stays between where it began
and the target. -/
theorem State.TicksFreely.tickRun (hs : s.TicksFreely) (hcur : s.cur = some c) (j : Nat) :
    ∃ t c', tickRun j s = some t ∧ t.cur = some c' ∧ t.tgt = s.tgt ∧
      distance c' s.tgt = distance c s.tgt - j * s.cfg.spt.toNat ∧
      min c.toNat s.tgt.toNat ≤ c'.toNat ∧ c'.toNat ≤ max c.toNat s.tgt.toNat := by
  induction j generalizing s c with
  | zero => exact ⟨s, c, rfl, hcur, rfl, by rw [Nat.zero_mul, Nat.sub_zero], Nat.min_le_left _ _, Nat.le_max_left _ _⟩
  | succ j ih =>
    obtain ⟨u, he, hu, hcu, htgt, hcfg⟩ := hs.exec_tick hcur
    obtain ⟨t, c', hrun, hct, htt, hdist, hlo, hhi⟩ := ih hu hcu
    obtain ⟨hmlo, hmhi⟩ := movedHeight_between s.cfg.spt c s.tgt
    rw [htgt] at htt hdist hlo hhi
    rw [hcfg, distance_movedHeight, Nat.sub_sub, Nat.add_comm, ← Nat.succ_mul] at hdist
    exact ⟨t, c', by rw [Machine.tickRun, he]; exact hrun, hct, htt, hdist, by omega, by omega⟩

/-! ### The statement -/

/-- A distance from which `n` is taken off `j` times is gone exactly from the ceiling of the quotient on. -/
theorem sub_mul_eq_zero_iff {d n j : Nat} (hn : 0 < n) : d - j * n = 0 ↔ (d + n - 1) / n ≤ j := by
  rw [Nat.sub_eq_zero_iff_le, Nat.div_le_iff_le_mul_add_pred hn, Nat.mul_comm n j]
  omega

/-- Settles O23: the height is the target exactly where the distance left is 0. -/
theorem ticksConvergeToTarget : Obligations.TicksConvergeToTarget := by
  intro s s' c hm hx hcur _ hspt hg h
  have hs : s.TicksFreely := ⟨hm, hx, hg, s', h⟩
  have hpos : 0 < s.cfg.spt.toNat := Nat.pos_of_ne_zero fun h0 => hspt (BitVec.eq_of_toNat_eq h0)
  refine ⟨hs.tickRun hcur, fun j => ?_⟩
  obtain ⟨t, c', hrun, hct, -, hdist, -⟩ := hs.tickRun hcur j
  have hreached : (∃ u, tickRun j s = some u ∧ u.cur = some s.tgt) ↔ c' = s.tgt := by
    rw [hrun]
    simp [hct]
  rw [hreached, ← distance_eq_zero, hdist, sub_mul_eq_zero_iff hpos]

end Sys2Proof.Machine
end

section
/-! PROOFS. The frames an operation writes (42_height_controller.md R166, 44_display_port.md R197): O30. An operation that
does not display writes none. The others are parts that write none, with a display write at the end of the body; the parts
that are operations of their own are covered by the first case. -/

namespace Sys2Proof.Machine

open Sys2Proof

variable {α : Type} {i : Instr} {s t u : State} {n : Nat}

/-! ### Frames in the history (R37) -/

theorem frameCount_append (es fs : List OutEvent) : frameCount (es ++ fs) = frameCount es + frameCount fs := by
  induction es with
  | nil => exact (Nat.zero_add _).symm
  | cons e es ih =>
    cases e with
    | pin p b => exact ih
    | disp f =>
      rw [List.cons_append, frameCount, frameCount, ih]
      omega

/-- From `s` to `t` the history grew, by at most `n` frames. -/
def FramesSince (n : Nat) (s t : State) : Prop :=
  ∃ events, t.hist = s.hist ++ events ∧ frameCount events ≤ n

theorem framesSince_of_hist (h : t.hist = s.hist) : FramesSince n s t :=
  ⟨[], by rw [h, List.append_nil], Nat.zero_le n⟩

theorem FramesSince.refl (s : State) : FramesSince n s s :=
  framesSince_of_hist rfl

theorem FramesSince.mono {m : Nat} (h : FramesSince n s t) (hnm : n ≤ m) : FramesSince m s t := by
  obtain ⟨events, hhist, hcount⟩ := h
  exact ⟨events, hhist, hcount.trans hnm⟩

theorem FramesSince.trans {m : Nat} (h : FramesSince m s t) (k : FramesSince n t u) : FramesSince (m + n) s u := by
  obtain ⟨es, ht, hes⟩ := h
  obtain ⟨fs, hu, hfs⟩ := k
  refine ⟨es ++ fs, by rw [hu, ht, List.append_assoc], ?_⟩
  rw [frameCount_append]
  exact Nat.add_le_add hes hfs

/-! ### Operations that do not display, and one display write -/

/-- A write other than a frame adds no frame. -/
theorem Write.framesSince {w : Write} (hw : w.Within i) (hi : ¬Displays i) (s : State) : FramesSince 0 s (w.apply s) := by
  cases w with
  | line p b => exact ⟨[.pin p b], by simp [Write.apply], Nat.le_refl 0⟩
  | frame f => exact absurd hw hi
  | _ => exact framesSince_of_hist (by simp [Write.apply])

theorem keeps_framesSince (hi : ¬Displays i) (s : State) : Keeps (FramesSince n s) i where
  pass _ h := h
  fault _ _ h := h
  write _ u hw h := h.trans (Write.framesSince hw hi u)

theorem dispUpdate_framesSince (f : Frame) (h : FramesSince 0 s t) : FramesSince 1 s (dispUpdate f t).st := by
  unfold dispUpdate
  cases hg : t.granted with
  | true =>
    rw [dispWrite_granted f hg]
    exact h.trans ⟨[.disp (shownFrame f)], rfl, Nat.le_refl 1⟩
  | false =>
    rw [dispWrite_failed f hg]
    exact h.mono (Nat.zero_le 1)

/-- Parts that write no frame may stand before one that writes at most one. -/
theorem framesSince_bind {r : Run α} {f : α → State → Run Unit} (h : FramesSince 0 s r.st)
    (hf : ∀ a t, FramesSince 0 s t → FramesSince 1 s (f a t).st) : FramesSince 1 s (r.bind f).st :=
  Run.bind_holds (h.mono (Nat.zero_le 1)) fun a _ => hf a _ h

/-! ### The parts that write no frame -/

theorem sgRotate_framesSince (d : Bool) (steps : Word) (h : FramesSince 0 s t) :
    FramesSince 0 s (sgRotate d steps t).st :=
  (keeps_framesSince (i := .sgRotate d steps) (by simp [Displays]) s).sgRotate (.inr (.inr ⟨d, steps, rfl⟩)) d steps h

theorem sgSetMode_framesSince (m : MicrostepMode) (h : FramesSince 0 s t) : FramesSince 0 s (sgSetMode m t).st :=
  (keeps_framesSince (i := .sgSetMode 0#3) (by simp [Displays]) s).sgSetMode (.inl ⟨_, rfl⟩) m h

theorem qdUpdate_framesSince (s : State) : FramesSince 0 s (qdUpdate s).st :=
  (keeps_framesSince (i := .qdUpdate) (by simp [Displays]) s).qdUpdate (.inl rfl) (.refl s)

theorem pinRead_framesSince (p : InPin) (h : FramesSince 0 s t) : FramesSince 0 s (pinRead p t).st :=
  (keeps_framesSince (i := .qdUpdate) (by simp [Displays]) s).pinRead p h

theorem openCooldown_framesSince (h : FramesSince 0 s t) : FramesSince 0 s (openCooldown t).st := by
  unfold openCooldown
  split <;> exact h

theorem cooldownTest_framesSince (s : State) : FramesSince 0 s (cooldownTest s).st := by
  obtain ⟨s', b, hstep, heq⟩ := cooldownTest_ret s
  obtain ⟨-, -, -, -, -, hhist⟩ := hstep.frame
  rw [heq]
  exact framesSince_of_hist hhist

/-! ### The bodies that display -/

theorem tickHoming_framesSince (h : FramesSince 0 s t) : FramesSince 1 s (tickHoming t).st := by
  refine framesSince_bind (sgRotate_framesSince _ _ h) fun _ u hu =>
    framesSince_bind (pinRead_framesSince _ hu) fun _ v hv => ?_
  split
  · exact dispUpdate_framesSince _ hv
  · exact hv.mono (Nat.zero_le 1)

theorem tickMove_framesSince (c : Word) (h : FramesSince 0 s t) : FramesSince 1 s (tickMove c t).st := by
  rw [tickMove_eq]
  exact framesSince_bind (sgRotate_framesSince _ _ h) fun _ _ hu => hu.mono (Nat.zero_le 1)

theorem tickBody_framesSince (s : State) : FramesSince 1 s (tickBody s).st := by
  refine framesSince_bind (cooldownTest_framesSince s) fun _ t ht => ?_
  split
  · exact tickHoming_framesSince ht
  · split
    · exact tickMove_framesSince _ ht
    · exact ht.mono (Nat.zero_le 1)

theorem turn_framesSince (r : Rotation) (h : FramesSince 0 s t) : FramesSince 1 s (turn r t).st := by
  refine framesSince_bind (openCooldown_framesSince h) fun _ u hu => ?_
  split
  · exact dispUpdate_framesSince _ hu
  · exact hu.mono (Nat.zero_le 1)

theorem encEdgeBody_framesSince (s : State) : FramesSince 1 s (encEdgeBody s).st := by
  refine framesSince_bind (qdUpdate_framesSince s) fun r t ht => ?_
  cases r with
  | none => exact ht.mono (Nat.zero_le 1)
  | cw | ccw => exact turn_framesSince _ ht

theorem limitEdgeBody_framesSince (s : State) : FramesSince 1 s (limitEdgeBody s).st := by
  refine framesSince_bind ?move fun _ t ht => dispUpdate_framesSince _ ht
  unfold limitMove
  split
  · exact sgRotate_framesSince _ _ (.refl s)
  · exact .refl s

theorem constructBody_framesSince (s : State) : FramesSince 1 s (constructBody s).st := by
  unfold constructBody
  split
  · exact .refl s
  · exact .refl s
  · exact framesSince_bind (sgSetMode_framesSince _ (.refl s)) fun _ t ht =>
      Run.bind_keeps (dispUpdate_framesSince _ ht) fun _ _ hu => hu

/-! ### The statement -/

theorem framesSince_of_runIf {legal : Bool} {r : Run Unit} (he : runIf legal r = .next t) (hr : FramesSince 1 s r.st) :
    FramesSince 1 s t := by
  obtain ⟨-, rfl⟩ := runIf_next.1 he
  exact hr

theorem exec_framesSince (he : exec i s = .next t) : FramesSince 1 s t := by
  by_cases hi : Displays i
  case neg => exact (keeps_framesSince hi s).exec he (.refl s)
  case pos =>
    cases i with
    | tick => exact framesSince_of_runIf he (tickBody_framesSince s)
    | encEdge => exact framesSince_of_runIf he (encEdgeBody_framesSince s)
    | homeEdge => exact framesSince_of_runIf he (dispUpdate_framesSince .calibrating (framesSince_of_hist rfl))
    | limitEdge =>
      cases hlim : s.cfg.hasLimit with
      | false =>
        rw [exec_limitEdge_without_sensor hlim] at he
        cases he
      | true =>
        rw [exec_limitEdge_with_sensor hlim] at he
        exact framesSince_of_runIf he (limitEdgeBody_framesSince s)
    | dispWelcome => exact framesSince_of_runIf he (dispUpdate_framesSince .welcome (.refl s))
    | dispCalibrating => exact framesSince_of_runIf he (dispUpdate_framesSince .calibrating (.refl s))
    | dispHeight mm =>
      simp only [exec, execDispHeight] at he
      split at he
      · exact framesSince_of_runIf he (dispUpdate_framesSince (.height mm) (.refl s))
      · cases he
    | construct => exact framesSince_of_runIf he (constructBody_framesSince s)
    | _ => simp [Displays] at hi

/-- Settles O30: no operation, whatever it does, adds more than one frame to the history. -/
theorem atMostOneFrame : Obligations.AtMostOneFrame :=
  fun _ _ _ he => exec_framesSince he

end Sys2Proof.Machine
end

section
/-! PROOFS. The system operations (43_system_ops.md R180 to R184): O31, O32, O33, O34. The configuration checks are read
as a table over the naturals; CONSTRUCT is then SG.SET_MODE and one display write after the registers are written, and
each of its ends is the end of one of these three parts. -/

namespace Sys2Proof.Machine

open Sys2Proof

variable {c : Cfg} {s : State} {k : Nat} {mode : MicrostepMode} {kind : DisplayFailure}

/-! ### The mask (R180, R181) -/

theorem Instr.require_csEnter_iff : Instr.require s .csEnter = true ↔ s.masked = false ∧ s.ctx ≠ .halted := by
  simp [Instr.require]

theorem Instr.require_csExit_iff : Instr.require s .csExit = true ↔ s.masked = true ∧ s.ctx ≠ .halted := by
  simp [Instr.require]

/-- Settles O31: one write of the mask, under the `require` of CS.ENTER. -/
theorem csEnterMasks : Obligations.CsEnterMasks :=
  ⟨rfl, fun _ => ⟨fun hm hx => runIf_legal (Instr.require_csEnter_iff.2 ⟨hm, hx⟩),
    fun h => runIf_refused (Bool.eq_false_iff.2 (mt Instr.require_csEnter_iff.1 h))⟩⟩

/-- Settles O32: one write of the mask, under the `require` of CS.EXIT. -/
theorem csExitUnmasks : Obligations.CsExitUnmasks :=
  ⟨rfl, fun _ => ⟨fun hm hx => runIf_legal (Instr.require_csExit_iff.2 ⟨hm, hx⟩),
    fun h => runIf_refused (Bool.eq_false_iff.2 (mt Instr.require_csExit_iff.1 h))⟩⟩

/-! ### The search for the first failing check (R184) -/

theorem failingCheck_eq_find (c : Cfg) : failingCheck c = (List.range' 1 9).find? (checkFails c) := rfl

/-- The check found is the least that fails. -/
theorem failingCheck_eq_some_iff :
    failingCheck c = some k ↔
      1 ≤ k ∧ k ≤ 9 ∧ checkFails c k = true ∧ ∀ j, 1 ≤ j → j < k → checkFails c j = false := by
  rw [failingCheck_eq_find, List.find?_range'_eq_some, List.mem_range'_1, Nat.lt_succ_iff]
  simp only [Bool.not_eq_true']
  tauto

theorem failingCheck_eq_none_iff : failingCheck c = none ↔ ∀ k, 1 ≤ k → k ≤ 9 → checkFails c k = false := by
  rw [failingCheck_eq_find, List.find?_range'_eq_none]
  simp only [Bool.not_eq_true', Nat.lt_succ_iff]

/-! ### The checks over the naturals (R184) -/

theorem word_beq_zero_iff (w : Word) : (w == 0#32) = true ↔ w.toNat = 0 := by
  rw [beq_iff_eq, ← BitVec.toNat_inj]
  rfl

/-- Checks 1, 2 and 8: a quantity that must not be 0. -/
theorem checkFails_zero_iff (c : Cfg) :
    (checkFails c 1 = true ↔ c.spm.toNat = 0) ∧ (checkFails c 2 = true ↔ c.spt.toNat = 0) ∧
    (checkFails c 8 = true ↔ c.homingSteps.toNat = 0) :=
  ⟨word_beq_zero_iff _, word_beq_zero_iff _, word_beq_zero_iff _⟩

/-- Checks 3 and 4: the range of heights fits the word and the display. -/
theorem checkFails_range_iff (c : Cfg) :
    (checkFails c 3 = true ↔ c.maxMm.toNat * c.spm.toNat ≥ 2 ^ 32) ∧ (checkFails c 4 = true ↔ c.maxMm.toNat > 99) := by
  refine ⟨decide_eq_true_iff, ?_⟩
  rw [checkFails, fitsDisplay, Bool.not_eq_true', decide_eq_false_iff_not, Nat.not_lt]
  rfl

/-- Checks 5, 6 and 7: a configured height, or an offset, must not lie above the range. -/
theorem checkFails_above_iff (c : Cfg) :
    (checkFails c 5 = true ↔ c.initTgt.toNat > c.maxMm.toNat * c.spm.toNat) ∧
    (checkFails c 6 = true ↔ c.homeOfs.toNat > c.maxMm.toNat * c.spm.toNat) ∧
    (checkFails c 7 = true ↔ c.hasLimit = true ∧ c.limitOfs.toNat > c.maxMm.toNat * c.spm.toNat) := by
  refine ⟨decide_eq_true_iff, decide_eq_true_iff, ?_⟩
  rw [checkFails, Bool.and_eq_true, decide_eq_true_iff]
  rfl

/-- Check 9: the mode has a code, the driver two or three mode lines, and two lines a table. -/
theorem checkFails_mode_iff (c : Cfg) :
    checkFails c 9 = true ↔
      c.mode.toNat > 4 ∨ (c.nmode.toNat ≠ 2 ∧ c.nmode.toNat ≠ 3) ∨ (c.nmode.toNat = 2 ∧ c.modeTable = none) := by
  simp [checkFails, BitVec.lt_def, ← BitVec.toNat_inj, or_assoc]

/-! ### The failing check that CONSTRUCT raises (R182, R184) -/

/-- The ConfigurationError of a check has the check's number as its tag. -/
theorem latch_config_of_failingCheck (h : failingCheck c = some k) :
    BlockFault.latch (.config (BitVec.ofNat 5 k)) = 0xE0#8 + BitVec.ofNat 8 k := by
  obtain ⟨h1, h9, -⟩ := failingCheck_eq_some_iff.1 h
  interval_cases k <;> rfl

theorem constructBody_check_failed (h : failingCheck s.cfg = some k) :
    constructBody s = raise (.config (BitVec.ofNat 5 k)) s := by
  rw [constructBody, h]

theorem Instr.require_construct_iff : Instr.require s .construct = true ↔ s.masked = true ∧ s.ctx = .reset := by
  simp [Instr.require]

theorem exec_construct_check_failed (hm : s.masked = true) (hc : s.ctx = .reset) (h : failingCheck s.cfg = some k) :
    exec .construct s = .next (s.haltedWith (0xE0#8 + BitVec.ofNat 8 k)) := by
  rw [← latch_config_of_failingCheck h]
  exact runIf_of_raise (Instr.require_construct_iff.2 ⟨hm, hc⟩) (constructBody_check_failed h)

/-- Settles O34: the search gives the least failing check, and the checks are those of the table. -/
theorem configurationChecks : Obligations.ConfigurationChecks := by
  intro c
  obtain ⟨h1, h2, h8⟩ := checkFails_zero_iff c
  obtain ⟨h3, h4⟩ := checkFails_range_iff c
  obtain ⟨h5, h6, h7⟩ := checkFails_above_iff c
  refine ⟨fun k => failingCheck_eq_some_iff, failingCheck_eq_none_iff, h1, h2, h3, h4, h5, h6, h7, h8,
    checkFails_mode_iff c, fun s k hs hm hc h => ?_⟩
  subst hs
  exact exec_construct_check_failed hm hc h

/-! ### CONSTRUCT with no failing check (R182) -/

theorem modeOfCode_isSome : ∀ m : BitVec 3, m.toNat ≤ 4 → (modeOfCode m).isSome = true := by
  decide

/-- Check 9 turns away the mode codes that have no mode. -/
theorem mode_of_no_failingCheck (h : failingCheck c = none) : ∃ mode, modeOfCode c.mode = some mode := by
  have h9 : ¬checkFails c 9 = true := Bool.eq_false_iff.1 (failingCheck_eq_none_iff.1 h 9 (by decide) (by decide))
  have hle : c.mode.toNat ≤ 4 := Nat.le_of_not_lt fun hgt => h9 ((checkFails_mode_iff c).2 (.inl hgt))
  exact Option.isSome_iff_exists.1 (modeOfCode_isSome c.mode hle)

/-- After the checks: the registers, the mode lines, Welcome, and the foreground opened. -/
theorem constructBody_checked (h : failingCheck s.cfg = none) (hmode : modeOfCode s.cfg.mode = some mode) :
    constructBody s = (sgSetMode mode s.initRegisters).bind fun _ t =>
      (dispUpdate .welcome t).bind fun _ t => .ret () t.openForeground := by
  rw [constructBody, h, hmode]

/-- The registers CONSTRUCT writes play no part in its accesses. -/
theorem sameWorld_initRegisters (s : State) : SameWorld s s.initRegisters := ⟨rfl, rfl, rfl, rfl⟩

/-- With the mode lines driven, Welcome is next. -/
theorem constructBody_driven (h : failingCheck s.cfg = none) (hmode : modeOfCode s.cfg.mode = some mode)
    (hg : s.grants (modeAccesses s.cfg)) :
    constructBody s =
      (dispUpdate .welcome
        (s.initRegisters.modeDriven (modeLevels s.cfg mode) (modeAccesses s.cfg) (modeAccesses s.cfg))).bind
        fun _ t => .ret () t.openForeground := by
  rw [constructBody_checked h hmode, sgSetMode_granted mode ((sameWorld_initRegisters s).grants hg), Run.ret_bind]
  rfl

theorem constructBody_mode_failed (h : failingCheck s.cfg = none) (hmode : modeOfCode s.cfg.mode = some mode)
    (hk : k < modeAccesses s.cfg) (hg : s.grants k) (hf : (s.passes k).granted = false) :
    constructBody s = raise (.io .mode) (s.initRegisters.modeDriven (modeLevels s.cfg mode) k (k + 1)) := by
  have hw := sameWorld_initRegisters s
  have hf' : (s.initRegisters.passes k).granted = false := (hw.passes k).granted.symm.trans hf
  rw [constructBody_checked h hmode, sgSetMode_failed (s := s.initRegisters) mode hk (hw.grants hg) hf', raise_bind]
  rfl

/-- Settles O33: with no failing check CONSTRUCT ends at Welcome, granted or failed, or at a failing mode line. -/
theorem constructBuildsController : Obligations.ConstructBuildsController := by
  refine ⟨rfl, fun s k hm hc h => exec_construct_check_failed hm hc h, fun s s0 mode hm hc h hmode hs0 => ?checked,
    fun s => mode_of_no_failingCheck,
    fun s hl => runIf_refused (Bool.eq_false_iff.2 (mt Instr.require_construct_iff.1 hl))⟩
  have hlegal : Instr.require s .construct = true := Instr.require_construct_iff.2 ⟨hm, hc⟩
  obtain rfl : s0 = s.initRegisters := hs0
  refine ⟨fun w hw hg => ?driven, fun k hk hg hf => ?mode_failed⟩
  case driven =>
    have hbody := constructBody_driven h hmode hg
    rw [← hw] at hbody
    refine ⟨fun hgw => ?shown, fun kind hio ha => ?display_failed⟩
    case shown =>
      rw [dispUpdate, dispWrite_granted .welcome hgw, Run.ret_bind] at hbody
      exact runIf_of_ret hlegal hbody
    case display_failed =>
      have hcfg : w.cfg = s.cfg := by rw [hw]; exact State.passes_cfg _ _
      rw [dispUpdate_failed (hcfg ▸ hio) ha, raise_bind] at hbody
      exact runIf_of_display_failed hlegal hbody
  case mode_failed => exact runIf_of_raise hlegal (constructBody_mode_failed h hmode hk hg hf)

end Sys2Proof.Machine
end

section
/-! PROOFS. The display port (44_display_port.md R195, R196): O16, O17. A height the field can show is what bounds both
statements: within it every request is one display write of a frame that is shown as it is given, beyond it there is no
request. -/

namespace Sys2Proof.Machine

open Sys2Proof

variable {i : Instr} {f : Frame} {s : State} {mm : Word} {kind : DisplayFailure}

/-! ### The numeric field (R9, R196) -/

theorem fitsDisplay_iff : fitsDisplay mm = true ↔ mm.toNat ≤ 99 :=
  decide_eq_true_iff.trans Nat.lt_succ_iff

theorem exec_dispHeight_of_fits (h : fitsDisplay mm = true) (s : State) :
    exec (.dispHeight mm) s = runIf s.canCall (dispUpdate (.height mm) s) := by
  rw [exec, execDispHeight, if_pos h]

theorem exec_dispHeight_beyond (h : fitsDisplay mm = false) (s : State) :
    exec (.dispHeight mm) s = .refused .heightBeyondDisplay := by
  rw [exec, execDispHeight, if_neg (Bool.eq_false_iff.1 h)]

/-- Settles O17: the display has two digits, and a height they cannot hold is refused before anything is looked at. -/
theorem threeDigitHeightsAreRefused : Obligations.ThreeDigitHeightsAreRefused := fun s _ hmm =>
  have hbeyond : fitsDisplay _ = false := Bool.eq_false_iff.2 (mt fitsDisplay_iff.1 (Nat.not_le_of_lt hmm))
  exec_dispHeight_beyond hbeyond s

/-! ### DISP.UPDATE (R195) -/

/-- `i` is the request to show `f`: it writes `f` where it is callable, and the display shows `f` as it is given. -/
structure Requests (i : Instr) (f : Frame) : Prop where
  exec_eq : ∀ s, exec i s = runIf s.canCall (dispUpdate f s)
  shown_eq : shownFrame f = f

theorem requests_welcome : Requests .dispWelcome .welcome := ⟨fun _ => rfl, rfl⟩

theorem requests_calibrating : Requests .dispCalibrating .calibrating := ⟨fun _ => rfl, rfl⟩

theorem requests_height (h : mm.toNat ≤ 99) : Requests (.dispHeight mm) (.height mm) :=
  have hfits := fitsDisplay_iff.2 h
  ⟨exec_dispHeight_of_fits hfits, shownFrame_of_fits hfits⟩

namespace Requests

theorem granted (h : Requests i f) (hcall : s.InCall) (hg : s.granted = true) : exec i s = .next (s.shown f) := by
  have hwrite : dispUpdate f s = .ret () (s.shown f) := by rw [dispUpdate, dispWrite_granted f hg, h.shown_eq]
  rw [h.exec_eq, runIf_of_ret (s.canCall_iff.2 hcall) hwrite]

theorem failed (h : Requests i f) (hcall : s.InCall) (hio : s.cfg.ioFaults = true)
    (ha : s.instant.answer = .fails kind) : exec i s = .next (s.pass.haltedWith (displayCode kind)) := by
  rw [h.exec_eq, runIf_of_display_failed (s.canCall_iff.2 hcall) (dispUpdate_failed hio ha f)]

theorem refused (h : Requests i f) (hcall : ¬s.InCall) : exec i s = .refused .illegalInContext := by
  rw [h.exec_eq, runIf_refused (s.canCall_false.2 hcall)]

end Requests

/-- Settles O16: each of the three operations is the request to show its frame. -/
theorem dispUpdateWritesFrame : Obligations.DispUpdateWritesFrame := by
  refine ⟨rfl, rfl, fun _ => rfl, fun i f hif s => ?_⟩
  have hreq : Requests i f := by
    obtain ⟨rfl, rfl⟩ | ⟨rfl, rfl⟩ | ⟨mm, hmm, rfl, rfl⟩ := hif
    · exact requests_welcome
    · exact requests_calibrating
    · exact requests_height hmm
  exact ⟨hreq.granted, fun _ => hreq.failed, hreq.refused⟩

end Sys2Proof.Machine
end

section
/-! PROOFS. The interrupt bridge (60_exceptions.md R210 to R217): O38, O40 to O44. The arbiter looks at the pending
sources in the order of `ARB`. Dispatch, return, beginning and end of a tick are each one equation of the step; and what
any step does to the mask, the context and the pending latches is said once, by `ControlStep`, from which the statements
about every step follow by its cases. -/

namespace Sys2Proof.Machine

open Sys2Proof

variable {i : Instr} {n : Source} {rest : List Byte} {s t u : State}

/-! ### The arbiter (R213) -/

/-- Every order serves every source. -/
theorem mem_arbOrder (a : Arb) (n : Source) : n ∈ arbOrder a := by
  cases a <;> cases n <;> decide

/-- The pending sources, in the order of `ARB`. -/
def State.pendingSources (s : State) : List Source :=
  (arbOrder s.cfg.arb).filter s.isPending

theorem State.mem_pendingSources : n ∈ s.pendingSources ↔ s.isPending n = true := by
  simp [pendingSources, mem_arbOrder]

theorem State.pendingSources_eq_nil_iff : s.pendingSources = [] ↔ ∀ n, s.isPending n = false := by
  simp [pendingSources, mem_arbOrder]

/-- Under `Any` the environment's choice is taken around the list of pending sources. -/
theorem State.chosen_any (h : s.cfg.arb = .any) (choice : Nat) :
    s.chosen choice = s.pendingSources[choice % s.pendingSources.length]? := by
  rw [chosen, pendingSources, h]
  cases (arbOrder .any).filter s.isPending <;> rfl

/-- Under an order the first pending source is taken. -/
theorem State.chosen_ordered (h : s.cfg.arb ≠ .any) (choice : Nat) : s.chosen choice = s.pendingSources.head? := by
  rw [chosen, pendingSources]
  cases ha : s.cfg.arb with
  | any => exact absurd ha h
  | _ => cases (arbOrder _).filter s.isPending <;> rfl

theorem State.isPending_of_chosen {choice : Nat} (h : s.chosen choice = some n) : s.isPending n = true := by
  refine State.mem_pendingSources.1 ?_
  by_cases ha : s.cfg.arb = .any
  · rw [chosen_any ha] at h
    exact List.mem_of_getElem? h
  · rw [chosen_ordered ha] at h
    exact List.mem_of_head? h

theorem State.chosen_eq_none_iff (choice : Nat) : s.chosen choice = none ↔ ∀ n, s.isPending n = false := by
  rw [← pendingSources_eq_nil_iff]
  by_cases ha : s.cfg.arb = .any
  · rw [chosen_any ha, List.getElem?_eq_none_iff, ← List.length_eq_zero_iff]
    refine ⟨fun h => ?_, fun h => by omega⟩
    by_contra hlen
    exact absurd (Nat.mod_lt choice (Nat.pos_of_ne_zero hlen)) (Nat.not_lt_of_le h)
  · rw [chosen_ordered ha, List.head?_eq_none_iff]

theorem State.exists_choice (ha : s.cfg.arb = .any) (h : s.isPending n = true) :
    ∃ choice, s.chosen choice = some n := by
  obtain ⟨k, hk, hn⟩ := List.mem_iff_getElem.1 (State.mem_pendingSources.2 h)
  exact ⟨k, by rw [chosen_any ha, Nat.mod_eq_of_lt hk, List.getElem?_eq_getElem hk, hn]⟩

/-- The first element of a list that satisfies `p` comes no later than any other that does. -/
theorem idxOf_find?_le {α : Type} [DecidableEq α] {p : α → Bool} {l : List α} {a b : α} (ha : l.find? p = some a)
    (hb : p b = true) : l.idxOf a ≤ l.idxOf b := by
  obtain ⟨hpa, l₁, l₂, rfl, hbefore⟩ := List.find?_eq_some_iff_append.1 ha
  have hnot : ∀ x, p x = true → x ∉ l₁ := fun x hx hmem => by simpa [hx] using hbefore x hmem
  rw [List.idxOf_append_of_notMem (hnot a hpa), List.idxOf_append_of_notMem (hnot b hb), List.idxOf_cons_self]
  omega

/-- Settles O40: the choice is made in the list of pending sources, at the environment's place or at its head. -/
theorem arbiterChoosesPending : Obligations.ArbiterChoosesPending := by
  refine fun s => ⟨fun _ _ => State.isPending_of_chosen, State.chosen_eq_none_iff, fun ha n => State.exists_choice ha,
    fun ha choice n m hn hm => ?_⟩
  rw [State.chosen_ordered ha, State.pendingSources, List.head?_filter] at hn
  exact idxOf_find?_le hn hm

/-! ### What the step finds on an empty port (R104, R213 to R217) -/

theorem State.presented_of_empty (hp : s.port = []) : s.presented = s.present := by
  rw [presented, hp]

theorem State.presented_of_request (hp : s.port ≠ []) : s.presented = s := by
  unfold presented
  split
  · contradiction
  · rfl

theorem State.present_fgOpen (hc : s.ctx = .fgOpen) : s.present = s.presentNext := by
  rw [present, hc]

/-- In a body's context the CS.EXIT is presented. -/
theorem State.present_in_body (hb : s.ctx.isBody = true) : s.present = s.setPort [0x41#8] := by
  unfold present
  cases hc : s.ctx with
  | fgTick | hEnc | hHome | hLimit => rfl
  | reset | fgOpen | halted => rw [hc] at hb; cases hb

theorem State.presentNext_chosen (h : s.chosen s.instant.choice = some n) :
    s.presentNext = s.setPort (handleSequence (Source.bodyOp n)) := by
  rw [presentNext, h]

theorem State.presentNext_idle (h : s.pendingBits = 0#3) : s.presentNext = s.setPort (handleSequence 0x00#8) := by
  have hnone : s.chosen s.instant.choice = none :=
    (State.chosen_eq_none_iff _).2 fun n => by simp [isPending, h]
  rw [presentNext, hnone]

/-! ### The entries and returns as single steps (R214, R215, R217) -/

/-- In FG_OPEN a presented sequence begins with its CS.ENTER and what goes with it. -/
theorem step_of_handleSequence {body : Byte} (hc : s.ctx = .fgOpen) (hm : s.masked = false) (hp : s.port = [])
    (hnext : s.presentNext = s.setPort (handleSequence body)) :
    step s = .next ((s.setPort [body, 0x41#8]).setMasked true).afterEnter.settled := by
  have hx : s.ctx ≠ .halted := by simp [hc]
  have hpres : s.presented = s.setPort (handleSequence body) := by
    rw [State.presented_of_empty hp, State.present_fgOpen hc, hnext]
  have hexec : exec .csEnter (s.setPort [body, 0x41#8]) = .next ((s.setPort [body, 0x41#8]).setMasked true) :=
    runIf_legal (Instr.require_csEnter_iff.2 ⟨hm, hx⟩)
  rw [step_of_decode (i := .csEnter) (rest := [body, 0x41#8]) (.inl hx) (by rw [hpres]; rfl), hpres]
  show accompanied .csEnter (exec .csEnter (s.setPort [body, 0x41#8])) = _
  rw [hexec]
  rfl

theorem sourceOfOp_bodyOp (n : Source) : sourceOfOp (Source.bodyOp n) = some n := by
  cases n <;> decide

theorem bodyOp_ne_tick (n : Source) : Source.bodyOp n ≠ 0x00#8 := by
  cases n <;> decide

/-- With the body of a pending source behind it, CS.ENTER goes with the dispatch of that source (R214). -/
theorem State.afterEnter_body (hc : t.ctx = .fgOpen) (hp : t.port = Source.bodyOp n :: rest)
    (hn : t.isPending n = true) : t.afterEnter = t.enterHandler n := by
  simp [afterEnter, hc, hp, bodyOp_ne_tick, sourceOfOp_bodyOp, hn]

/-- With TICK behind it and nothing pending, CS.ENTER goes with the beginning of a tick (R217). -/
theorem State.afterEnter_tick (hc : t.ctx = .fgOpen) (hp : t.port = 0x00#8 :: rest)
    (hidle : t.pendingBits = 0#3) : t.afterEnter = t.beginTick := by
  simp [afterEnter, hc, hp, hidle]

/-- The CS.EXIT of a body, left on the port or presented, is the return or the end of tick (R215, R217). -/
theorem step_leaves_body (hb : s.ctx.isBody = true) (hm : s.masked = true) (hp : s.port = [0x41#8] ∨ s.port = []) :
    step s = .next (s.setPort []).leaveBody.pass := by
  have hx : s.ctx ≠ .halted := fun h => by simp [h, Ctx.isBody] at hb
  have hpres : s.presented = s.setPort [0x41#8] := by
    rcases hp with hp | hp
    · rw [State.presented_of_request (by simp [hp]), ← hp]; rfl
    · rw [State.presented_of_empty hp, State.present_in_body hb]
  rw [step_of_decode (i := .csExit) (rest := []) (.inl hx) (by rw [hpres]; rfl), hpres]
  show accompanied .csExit (exec .csExit (s.setPort [])) = _
  rw [accompanied_csExit_in_body (s := s.setPort []) hm hb, State.settled_of_running (by simp)]

/-- Settles O41: the source's sequence is presented, and its body stands behind the CS.ENTER. -/
theorem dispatchEntersHandler : Obligations.DispatchEntersHandler := by
  intro s n hc hm hp hn
  refine ⟨?_, by cases n <;> rfl⟩
  have hpending : s.isPending n = true := State.isPending_of_chosen hn
  rw [step_of_handleSequence hc hm hp (State.presentNext_chosen hn),
    State.afterEnter_body (t := (s.setPort [Source.bodyOp n, 0x41#8]).setMasked true) hc rfl hpending,
    State.settled_of_running (by cases n <;> simp [Source.ctx])]
  rfl

/-! ### What a step does to the mask, the context and the pending latches -/

/-- The latch of a source is not cleared. -/
abbrev State.KeepsLatch (s t : State) (n : Source) : Prop :=
  s.ip.getLsbD (Source.index n) = true → t.ip.getLsbD (Source.index n) = true

/-- What a step that serves `i` does to the mask, the context and the pending latches, from `s` to `t`. -/
inductive ControlStep (i : Instr) (s t : State) : Prop
  /-- Any other operation: the block goes on in its context or halts (R28, R203). -/
  | runs (hctx : t.ctx = s.ctx ∨ t.ctx = .halted) (hmask : t.masked = s.masked) (hip : ∀ n, s.KeepsLatch t n)
  /-- A CS.ENTER that enters no body. -/
  | masks (hm : s.masked = false) (hctx : t.ctx = s.ctx) (hmask : t.masked = true) (hip : ∀ n, s.KeepsLatch t n)
  /-- The beginning of a tick (R217). -/
  | ticks (hopen : s.ctx = .fgOpen) (hm : s.masked = false) (hidle : s.pendingBits = 0#3) (hctx : t.ctx = .fgTick)
      (hmask : t.masked = true) (hip : ∀ n, s.KeepsLatch t n)
  /-- The dispatch of a source (R214). -/
  | dispatches (n : Source) (hopen : s.ctx = .fgOpen) (hm : s.masked = false) (hn : s.isPending n = true)
      (hctx : t.ctx = Source.ctx n) (hmask : t.masked = true) (hip : ∀ m, m ≠ n → s.KeepsLatch t m)
  /-- CS.EXIT: the return from a body (R215, R217), or the mask alone. -/
  | unmasks (hi : i = .csExit) (hctx : t.ctx = .fgOpen ∨ s.ctx.isBody = false ∧ t.ctx = s.ctx)
      (hmask : t.masked = false) (hip : ∀ n, s.KeepsLatch t n)
  /-- CONSTRUCT (R182). -/
  | constructs (hreset : s.ctx = .reset)
      (hends : (t.ctx = .fgOpen ∧ t.masked = false) ∨ (t.ctx = .halted ∧ t.masked = s.masked))

theorem State.settled_keepsLatch (t : State) (n : Source) : t.KeepsLatch t.settled n := by
  intro h
  unfold settled
  split <;> exact State.pass_keeps_pending h

theorem Source.getLsbD_bit (m n : Source) : (Source.bit m).getLsbD (Source.index n) = decide (m = n) := by
  cases m <;> cases n <;> rfl

/-- Dispatch clears the latch of its own source alone (R214). -/
theorem State.enterHandler_keepsLatch {m : Source} (h : m ≠ n) (t : State) : t.KeepsLatch (t.enterHandler n) m := by
  intro hm
  have hbit : (Source.bit n).getLsbD (Source.index m) = false := by
    rw [Source.getLsbD_bit]
    exact decide_eq_false h.symm
  have hlt : Source.index m < 3 := by cases m <;> decide
  rw [State.enterHandler_ip, BitVec.getLsbD_and, BitVec.getLsbD_not, hm, hbit, decide_eq_true hlt]
  rfl

/-- CONSTRUCT ends in the open foreground or halts the block under its mask (R182, R203). -/
theorem constructBody_ends (s : State) :
    ((constructBody s).st.ctx = .fgOpen ∧ (constructBody s).st.masked = false) ∨
      ((constructBody s).st.ctx = .halted ∧ (constructBody s).st.masked = s.masked) := by
  unfold constructBody
  split
  · exact .inr ⟨rfl, rfl⟩
  · exact .inr ⟨rfl, rfl⟩
  · rename_i m _ _
    rcases sgSetMode_cases m s.initRegisters with ⟨-, hm⟩ | ⟨k, -, -, -, hm⟩ <;> rw [hm]
    · rw [Run.ret_bind, dispUpdate]
      generalize hu : s.initRegisters.modeDriven _ _ _ = u
      have hmask : u.masked = s.masked := by rw [← hu]; exact State.passes_masked _ _
      cases hg : u.granted with
      | true => rw [dispWrite_granted _ hg]; exact .inl ⟨rfl, rfl⟩
      | false => rw [dispWrite_failed _ hg]; exact .inr ⟨rfl, hmask⟩
    · exact .inr ⟨rfl, State.passes_masked _ _⟩

theorem controlStep_csEnter (he : exec .csEnter (s.setPort rest) = .next u) :
    ControlStep .csEnter s u.afterEnter.settled := by
  obtain ⟨hlegal, rfl⟩ := runIf_next.1 he
  obtain ⟨hm, -⟩ := Instr.require_csEnter_iff.1 hlegal
  rw [Run.ret_st]
  have hkeep := ((s.setPort rest).setMasked true).afterEnter.settled_keepsLatch
  rcases ((s.setPort rest).setMasked true).afterEnter_cases with h | ⟨hc, ⟨hidle, h⟩ | ⟨n, hn, h⟩⟩ <;>
    rw [h] at hkeep ⊢
  · exact .masks hm (by simp) (by simp) hkeep
  · exact .ticks hc hm hidle (by simp) (by simp) hkeep
  · exact .dispatches n hc hm hn (by simp) (by simp) fun m hmn hset =>
      hkeep m (State.enterHandler_keepsLatch hmn _ hset)

theorem controlStep_csExit (he : exec .csExit (s.setPort rest) = .next u) :
    ControlStep .csExit s u.afterExit.settled := by
  obtain ⟨-, rfl⟩ := runIf_next.1 he
  rw [Run.ret_st]
  have hkeep := ((s.setPort rest).setMasked false).afterExit.settled_keepsLatch
  rcases ((s.setPort rest).setMasked false).afterExit_cases with ⟨-, h⟩ | ⟨hb, h⟩ <;> rw [h] at hkeep ⊢
  · exact .unmasks rfl (.inl (by simp)) (by simp) hkeep
  · exact .unmasks rfl (.inr ⟨hb, by simp⟩) (by simp) hkeep

theorem controlStep_construct (he : exec .construct (s.setPort rest) = .next u) :
    ControlStep .construct s u.settled := by
  obtain ⟨hlegal, rfl⟩ := runIf_next.1 he
  obtain ⟨-, hc⟩ := Instr.require_construct_iff.1 hlegal
  refine .constructs hc ?_
  rw [State.settled_ctx, State.settled_masked]
  exact constructBody_ends _

/-- Every step that answers a next state is one of these. -/
theorem step_controlStep (h : step s = .next t) :
    ∃ i rest, decode s.presented.port = .op i rest ∧ ControlStep i s t := by
  obtain ⟨i, rest, u, hd, he, rfl⟩ := step_next h
  rw [State.presented_keeps (State.setPort · rest) (fun _ _ => rfl) s] at he
  refine ⟨i, rest, hd, ?_⟩
  by_cases h1 : i = .csEnter
  · subst h1; exact controlStep_csEnter he
  by_cases h2 : i = .csExit
  · subst h2; exact controlStep_csExit he
  rw [State.accompany_other h1 h2]
  by_cases h3 : i = .construct
  · subst h3; exact controlStep_construct he
  · refine .runs ?_ ?_ fun n hn => u.settled_keepsLatch n (exec_keeps_pending he h3 hn)
    · rw [State.settled_ctx]; exact exec_ctx (s := s.setPort rest) he h3
    · rw [State.settled_masked]; exact exec_masked (s := s.setPort rest) he h1 h2 h3

/-! ### The statements about every step -/

/-- A step goes on in its context, ends in FG_OPEN or HALTED, or enters a body from FG_OPEN. -/
theorem ControlStep.stays_or_enters (h : ControlStep i s t) :
    (t.ctx = s.ctx ∨ t.ctx = .fgOpen ∨ t.ctx = .halted) ∨ (s.ctx = .fgOpen ∧ s.masked = false ∧ t.masked = true) := by
  cases h with
  | runs hctx _ _ => exact .inl (hctx.imp_right .inr)
  | masks _ hctx _ _ => exact .inl (.inl hctx)
  | ticks hopen hm _ _ hmask _ => exact .inr ⟨hopen, hm, hmask⟩
  | dispatches _ hopen hm _ _ hmask _ => exact .inr ⟨hopen, hm, hmask⟩
  | unmasks _ hctx _ _ => exact .inl (hctx.elim (fun h => .inr (.inl h)) fun h => .inl h.2)
  | constructs _ hends => exact .inl (.inr (hends.imp And.left And.left))

/-- Settles O44: FG_OPEN and HALTED are no bodies, so that a body that is new has been entered. -/
theorem bodiesAreMutuallyExclusive : Obligations.BodiesAreMutuallyExclusive := by
  intro s t hstep
  obtain ⟨i, rest, -, hcontrol⟩ := step_controlStep hstep
  rcases hcontrol.stays_or_enters with hstays | henters
  · refine ⟨fun _ => hstays, fun hb hne => ?_⟩
    rcases hstays with h | h | h
    · exact absurd h hne
    · rw [h] at hb; cases hb
    · rw [h] at hb; cases hb
  · refine ⟨fun hb => ?_, fun _ _ => henters⟩
    obtain ⟨hopen, -, -⟩ := henters
    rw [hopen] at hb; cases hb

/-- A step under the mask opens it by CS.EXIT or at the end of CONSTRUCT alone (R27). -/
theorem ControlStep.opens (h : ControlStep i s t) (hm : s.masked = true) (htm : t.masked = false) :
    s.ctx = .reset ∨ i = .csExit ∧ (t.ctx = .fgOpen ∨ s.ctx.isBody = false) := by
  cases h with
  | runs _ hmask _ => simp [hmask, hm] at htm
  | masks _ _ hmask _ | ticks _ _ _ _ hmask _ | dispatches _ _ _ _ _ hmask _ => simp [hmask] at htm
  | unmasks hi hctx _ _ => exact .inr ⟨hi, hctx.imp_right And.left⟩
  | constructs hreset _ => exact .inl hreset

theorem isBody_of_handler (h : s.ctx = .hEnc ∨ s.ctx = .hHome ∨ s.ctx = .hLimit) : s.ctx.isBody = true := by
  rcases h with h | h | h <;> rw [h] <;> rfl

/-- Settles O42: a step of a handler that opens the mask has served the CS.EXIT at the head of what was presented. -/
theorem handlerReturns : Obligations.HandlerReturns := by
  intro s hx hm
  have hb := isBody_of_handler hx
  refine ⟨fun hp => step_leaves_body hb hm hp, fun t hstep htm => ?_⟩
  obtain ⟨i, rest, hd, hcontrol⟩ := step_controlStep hstep
  rcases hcontrol.opens hm htm with hreset | ⟨rfl, hctx⟩
  · rw [hreset] at hb; cases hb
  · refine ⟨hctx.resolve_right (by simp [hb]), or_iff_not_imp_left.2 fun hp => ?_⟩
    rw [State.presented_of_request hp] at hd
    rw [(decode_eq_op hd).2]
    rfl

theorem Source.ctx_ne_fgTick (n : Source) : Source.ctx n ≠ .fgTick := by
  cases n <;> decide

/-- A tick is begun with nothing pending (R217). -/
theorem ControlStep.idle_of_tick (h : ControlStep i s t) (hopen : s.ctx = .fgOpen) (htick : t.ctx = .fgTick) :
    s.pendingBits = 0#3 := by
  cases h with
  | ticks _ _ hidle _ _ _ => exact hidle
  | dispatches n _ _ _ hctx _ _ => exact absurd (hctx.symm.trans htick) (Source.ctx_ne_fgTick n)
  | runs hctx _ _ | masks _ hctx _ _ | unmasks _ hctx _ _ => simp [hopen, htick] at hctx
  | constructs hreset _ => simp [hopen] at hreset

/-- Settles O43: beginning and end of a tick are each one equation of the step. -/
theorem foregroundTicks : Obligations.ForegroundTicks := by
  refine ⟨fun s hc hm hp hidle => ?_, rfl, fun s t hc hp hpending hstep htick => ?_, fun s hc hm hp => ?_⟩
  · rw [step_of_handleSequence hc hm hp (State.presentNext_idle hidle),
      State.afterEnter_tick (t := (s.setPort [0x00#8, 0x41#8]).setMasked true) hc rfl hidle,
      State.settled_of_running (by simp)]
    rfl
  · obtain ⟨i, rest, -, hcontrol⟩ := step_controlStep hstep
    exact hpending (hcontrol.idle_of_tick hc htick)
  · exact step_leaves_body (by rw [hc]; rfl) hm hp

/-! ### The edge detectors (R210, R211) -/

/-- A sensed transition sets the latch of its source and no other. -/
theorem getLsbD_latchEdge (c : Cfg) (ip : BitVec 3) (m : PinMove) (n : Source) :
    (latchEdge c ip m).getLsbD (Source.index n) =
      (ip.getLsbD (Source.index n) || decide (sensedBy c m.pin m.level = some n)) := by
  unfold latchEdge
  cases sensedBy c m.pin m.level with
  | none => simp
  | some k => simp only [BitVec.getLsbD_or, Source.getLsbD_bit, Option.some.injEq]

theorem Pins.move_of_level {x : Pins} {m : PinMove} (h : Levels.get x.levels m.pin = m.level) (c : Cfg) (armed : Bool) :
    x.move c armed m = x :=
  if_pos h

theorem Pins.move_of_transition {x : Pins} {m : PinMove} (h : Levels.get x.levels m.pin ≠ m.level) (c : Cfg)
    (armed : Bool) : x.move c armed m =
      { levels := Levels.set x.levels m.pin m.level, ip := if armed then latchEdge c x.ip m else x.ip } :=
  if_neg h

theorem selects_iff (e : EdgeSel) (new : Bool) :
    selects e new = true ↔ e = .both ∨ (e = .rising ∧ new = true) ∨ (e = .falling ∧ new = false) := by
  cases e <;> simp [selects]

theorem eq_activeLevel_iff (c : Cfg) (new : Bool) : new = activeLevel c ↔ (new = true ↔ c.aEdge = .rising) := by
  cases ha : c.aEdge <;> simp [activeLevel, ha]

theorem sensedBy_encA_iff (c : Cfg) (new : Bool) :
    sensedBy c .encA new = some n ↔ n = .enc ∧ (c.qdPolicy = .edgeLatched ∨ (new = true ↔ c.aEdge = .rising)) := by
  rw [← eq_activeLevel_iff]
  rw [sensedBy, @eq_comm _ n]
  cases c.qdPolicy with
  | edgeLatched => simp
  | immediateLevel => simp [and_comm]

theorem sensedBy_home_iff (c : Cfg) (new : Bool) :
    sensedBy c .home new = some n ↔ n = .home ∧ selects c.homeEdgeSel new = true := by
  rw [sensedBy, Option.ite_none_right_eq_some, Option.some.injEq, and_comm, @eq_comm _ n]

theorem sensedBy_limit_iff (c : Cfg) (new : Bool) :
    sensedBy c .limit new = some n ↔ n = .limit ∧ c.hasLimit = true ∧ selects c.limitEdgeSel new = true := by
  rw [sensedBy, Option.ite_none_right_eq_some, Option.some.injEq, Bool.and_eq_true, and_comm, @eq_comm _ n]

/-- Outside RESET a step that clears the latch of a source is the dispatch of that source (R214). -/
theorem ControlStep.dispatch_of_cleared (h : ControlStep i s t) (hx : s.ctx ≠ .reset) (hclear : ¬s.KeepsLatch t n) :
    s.ctx = .fgOpen ∧ s.masked = false ∧ t.ctx = Source.ctx n := by
  cases h with
  | runs _ _ hip | masks _ _ _ hip | ticks _ _ _ _ _ hip | unmasks _ _ _ hip => exact absurd (hip n) hclear
  | constructs hreset _ => exact absurd hreset hx
  | dispatches m hopen hm _ hctx _ hip =>
    obtain rfl : n = m := by_contra fun hne => hclear (hip n hne)
    exact ⟨hopen, hm, hctx⟩

/-- Settles O38: a move of a pin is a transition or none, and an instant is the fold of its moves. -/
theorem edgesSetPendingLatches : Obligations.EdgesSetPendingLatches := by
  refine ⟨fun c armed x m => ⟨fun h => Pins.move_of_level h c armed, fun h => ?transition⟩,
    fun c p new n => ?sensed, fun s => by simp [State.armed], fun s => rfl, fun s t n hx hstep hset hclear => ?cleared⟩
  case transition =>
    rw [Pins.move_of_transition h]
    refine ⟨rfl, fun n => ?_⟩
    cases armed with
    | false => simp
    | true => simpa using getLsbD_latchEdge c x.ip m n
  case sensed =>
    rw [← selects_iff, ← selects_iff]
    cases p with
    | encA => simp [sensedBy_encA_iff]
    | encB => simp [sensedBy]
    | home => simp [sensedBy_home_iff]
    | limit => simp [sensedBy_limit_iff]
  case cleared =>
    obtain ⟨i, rest, -, hcontrol⟩ := step_controlStep hstep
    exact hcontrol.dispatch_of_cleared hx fun hkeep => by simp [hkeep hset] at hclear

end Sys2Proof.Machine
end

section
/-! PROOFS. Faults (60_exceptions.md R203, 30_encoding.md R101): O35. No operation runs in HALTED; one that ends there
has raised a fault, and what the latch then holds is an invariant of every part of every body. -/

namespace Sys2Proof.Machine

open Sys2Proof

variable {i : Instr} {s t : State}

/-- Every operation but CS.ENTER runs under the mask (R101). -/
theorem Instr.masked_of_require (h : Instr.require s i = true) (hi : i ≠ .csEnter) : s.masked = true := by
  cases i with
  | csEnter => exact absurd rfl hi
  | _ => exact Bool.and_elim_left h

theorem exec_require (he : exec i s = .next t) : Instr.require s i = true := by
  by_contra h
  obtain ⟨r, hr⟩ := exec_refused_of_require (Bool.eq_false_iff.2 h)
  rw [hr] at he; cases he

theorem exec_not_halted (he : exec i s = .next t) : s.ctx ≠ .halted := fun h => by
  obtain ⟨r, hr⟩ := exec_halted_refused h i
  rw [hr] at he; cases he

/-- The latch keeps its first fault, and in HALTED it holds one (R203). -/
def State.LatchSince (s t : State) : Prop :=
  (s.faultValid = true → t.fault = s.fault) ∧ (t.ctx = .halted → t.faultValid = true)

theorem keeps_latchSince (s : State) (i : Instr) : Keeps s.LatchSince i where
  pass _ h := h
  fault u f := fun ⟨hfirst, _⟩ => by
    refine ⟨fun hs => ?_, fun _ => ?_⟩
    · have hu : u.faultValid = true := by rw [State.faultValid, hfirst hs]; exact hs
      rw [State.takeFault_fault, if_pos hu, hfirst hs]
    · rw [State.faultValid, State.takeFault_fault]
      split
      · assumption
      · exact latch_valid f
  write w u hw := fun ⟨hfirst, hlatched⟩ => by
    refine ⟨fun hs => by rw [w.apply_fault, hfirst hs], fun hx => ?_⟩
    rw [State.faultValid, w.apply_fault]
    refine hlatched ?_
    cases w with
    | openForeground => cases hx
    | _ => simpa [Write.apply] using hx

theorem exec_latchSince (he : exec i s = .next t) : s.LatchSince t :=
  (keeps_latchSince s i).exec he ⟨fun _ => rfl, fun hx => absurd hx (exec_not_halted he)⟩

/-- An operation that halts the block ran under the mask and has left it set. -/
theorem exec_masked_of_halted (he : exec i s = .next t) (hx : t.ctx = .halted) : s.masked = true ∧ t.masked = true := by
  have hs := exec_not_halted he
  by_cases h1 : i = .csEnter
  · subst h1
    obtain ⟨-, rfl⟩ := runIf_next.1 he
    exact absurd hx hs
  have hm := Instr.masked_of_require (exec_require he) h1
  refine ⟨hm, ?_⟩
  by_cases h2 : i = .csExit
  · subst h2
    obtain ⟨-, rfl⟩ := runIf_next.1 he
    exact absurd hx hs
  by_cases h3 : i = .construct
  · subst h3
    obtain ⟨-, rfl⟩ := runIf_next.1 he
    rcases constructBody_ends s with ⟨h, -⟩ | ⟨-, hmask⟩
    · simp [h] at hx
    · rw [hmask, hm]
  · rw [exec_masked he h1 h2 h3, hm]

/-- In HALTED whatever stands on the port is refused (R101). -/
theorem step_halted_refused (hx : s.ctx = .halted) (hp : s.port ≠ []) : ∃ r, step s = .refused r := by
  cases hd : decode s.port with
  | op i rest =>
    obtain ⟨r, he⟩ := exec_halted_refused (s := s.setPort rest) hx i
    exact ⟨r, step_refused hd he⟩
  | reserved code | incomplete code | idle => exact ⟨_, by rw [step_of_port hp, serve, hd]⟩

/-- Settles O35: no operation runs in HALTED, and the end of a step empties the port there;
what the latch and the mask hold after an operation that halts is kept along its parts. -/
theorem faultHaltsTheBlock : Obligations.FaultHaltsTheBlock := by
  refine ⟨fun s f => rfl, fun s hx hp => if_pos ⟨hx, hp⟩, fun s hx hp => step_halted_refused hx hp,
    fun s t hstep hx => ?_, fun i s t he hx => ?_⟩
  · obtain ⟨i, rest, u, -, -, rfl⟩ := step_next hstep
    rw [State.settled_ctx] at hx
    rw [State.settled_port, if_pos hx]
  · obtain ⟨hm, htm⟩ := exec_masked_of_halted he hx
    obtain ⟨hfirst, hlatched⟩ := exec_latchSince he
    exact ⟨exec_not_halted he, hm, htm, hlatched hx, hfirst⟩

end Sys2Proof.Machine
end

section
/-! PROOFS. Every step pulse is effective (10_state.md R25, R37; 70_reset_and_hazards.md R250 (g)): O15. Only SG.ROTATE
writes the Step line; it does so between its enabling and its disabling write. -/

namespace Sys2Proof.Machine

open Sys2Proof

variable {i : Instr} {l : Lines} {s t u : State}

/-! ### The pulses of a list of events (R37) -/

theorem pulses_append (l : Lines) (es fs : List OutEvent) :
    pulses l (es ++ fs) = pulses l es ++ pulses (es.foldl Lines.after l) fs := by
  induction es generalizing l with
  | nil => rfl
  | cons e es ih =>
    rw [List.cons_append, pulses, pulses, ih]
    split <;> rfl

/-- Only a write of 1 to the Step line is a step pulse. -/
theorem pulses_singleton_of_ne {e : OutEvent} (he : e ≠ .pin .step true) (l : Lines) : pulses l [e] = [] := by
  simp [pulses, Lines.isPulse, he]

/-- The pulses of a train are given with the driver as the enable line has it throughout. -/
theorem pulse_of_pulseEvents (n : Nat) {p : Pulse} (hp : p ∈ pulses l (pulseEvents n)) : p.effective = !l.enN := by
  induction n generalizing l with
  | zero => cases hp
  | succ n ih =>
    rw [pulseEvents, pulses, pulses] at hp
    have htail := ih (l := (l.after (.pin .step true)).after (.pin .step false))
    have hlow : ¬(l.after (.pin .step true)).isPulse (.pin .step false) = true := by simp [Lines.isPulse]
    rw [if_neg hlow] at hp
    split at hp
    · rcases List.mem_cons.1 hp with rfl | hp
      · rfl
      · exact htail hp
    · exact htail hp

/-- Flag and enable line agreeing, SG.ROTATE enables the driver before its first pulse, to disable it after its last. -/
theorem pulse_of_rotateEvents {enabled : Bool} (he : enabled = !l.enN) (d : Bool) (n : Nat) {p : Pulse}
    (hp : p ∈ pulses l (rotateEvents enabled d n)) : p.effective = true := by
  obtain ⟨step, dir, enN⟩ := l
  subst he
  cases enN with
  | false => exact pulse_of_pulseEvents n (l := ⟨step, d, false⟩) hp
  | true =>
    have hp' : p ∈ pulses ⟨step, d, false⟩ (pulseEvents n ++ [.pin .enN true]) := hp
    rw [pulses_append, pulses_singleton_of_ne (by simp), List.append_nil] at hp'
    exact pulse_of_pulseEvents n hp'

/-! ### Histories that grow by effective pulses alone -/

/-- From `s` to `t` the history grew, by effective pulses alone. -/
def EffectiveSince (s t : State) : Prop :=
  ∃ events, t.hist = s.hist ++ events ∧ ∀ p ∈ pulses s.lines events, p.effective = true

theorem effectiveSince_of_hist (h : t.hist = s.hist) : EffectiveSince s t :=
  ⟨[], by rw [h, List.append_nil], fun _ hp => nomatch hp⟩

theorem EffectiveSince.event {e : OutEvent} (h : EffectiveSince s t) (he : e ≠ .pin .step true)
    (hu : u.hist = t.hist ++ [e]) : EffectiveSince s u := by
  obtain ⟨events, ht, hall⟩ := h
  refine ⟨events ++ [e], by rw [hu, ht, List.append_assoc], ?_⟩
  rwa [pulses_append, pulses_singleton_of_ne he, List.append_nil]

theorem EffectiveSince.of_hist (h : EffectiveSince s t) (hu : u.hist = t.hist) : EffectiveSince s u := by
  obtain ⟨events, ht, hall⟩ := h
  exact ⟨events, hu.trans ht, hall⟩

/-- What grew from a state with the same lines and history grew from this one. -/
theorem EffectiveSince.from_same (h : EffectiveSince t u) (hlines : t.lines = s.lines) (hhist : t.hist = s.hist) :
    EffectiveSince s u := by
  obtain ⟨events, hu, hall⟩ := h
  exact ⟨events, by rw [hu, hhist], by rwa [← hlines]⟩

/-! ### Parts that write no Step line -/

/-- An operation that does not rotate writes no pulse. -/
theorem keeps_effectiveSince (hi : ¬Rotates i) (s : State) : Keeps (EffectiveSince s) i where
  pass _ h := h
  fault _ _ h := h
  write w u hw h := by
    cases w with
    | line p b =>
      have hp : p ≠ .step := by
        rintro rfl
        exact hi hw
      exact h.event (e := .pin p b) (by simp [hp]) (by simp [Write.apply])
    | frame f => exact h.event (e := .disp (shownFrame f)) nofun rfl
    | _ => exact h.of_hist (by simp [Write.apply])

theorem pinRead_effectiveSince (p : InPin) (h : EffectiveSince s t) : EffectiveSince s (pinRead p t).st :=
  (keeps_effectiveSince (i := .qdUpdate) (by simp [Rotates]) s).pinRead p h

theorem dispUpdate_effectiveSince (f : Frame) (h : EffectiveSince s t) : EffectiveSince s (dispUpdate f t).st :=
  (keeps_effectiveSince (i := .dispWelcome) (by simp [Rotates]) s).dispUpdate (by simp [Displays]) f h

/-! ### The train and the bodies that make one -/

/-- SG.ROTATE writes a beginning of its events, the whole of them or up to its first failing write (R136). -/
theorem sgRotate_effectiveSince (hen : s.sgEn = !s.oEnN) (d : Bool) (steps : Word) :
    EffectiveSince s (sgRotate d steps s).st := by
  have hall : ∀ p ∈ pulses s.lines (rotateEvents s.sgEn d steps.toNat), p.effective = true :=
    fun _ => pulse_of_rotateEvents hen d _
  rcases sgRotate_cases d steps s with ⟨-, hr⟩ | ⟨k, w, -, -, -, -, hr⟩ <;> rw [hr]
  · exact ⟨_, rfl, hall⟩
  · refine ⟨(rotateEvents s.sgEn d steps.toNat).take k, ?_, fun p hp => hall p ?_⟩
    · rw [← rotateWrites_events, ← List.map_take]
      exact s.written_hist _
    · rw [← List.take_append_drop k (rotateEvents _ _ _), pulses_append]
      exact List.mem_append_left _ hp

theorem tickHoming_effectiveSince (hen : s.sgEn = !s.oEnN) : EffectiveSince s (tickHoming s).st := by
  refine Run.bind_keeps (sgRotate_effectiveSince hen _ _) fun _ t ht =>
    Run.bind_keeps (pinRead_effectiveSince _ ht) fun _ u hu => ?_
  split
  · exact dispUpdate_effectiveSince _ (hu.of_hist rfl)
  · exact hu

theorem tickMove_effectiveSince (hen : s.sgEn = !s.oEnN) (c : Word) : EffectiveSince s (tickMove c s).st := by
  rw [tickMove_eq]
  exact Run.bind_keeps (sgRotate_effectiveSince hen _ _) fun _ _ ht => ht.of_hist rfl

/-- The cooldown test leaves flag, lines and history to the part of TICK behind it. -/
theorem tickBody_effectiveSince (hen : s.sgEn = !s.oEnN) : EffectiveSince s (tickBody s).st := by
  obtain ⟨s', b, hcd, heq⟩ := cooldownTest_ret s
  obtain ⟨-, -, -, hsg, hlines, hhist⟩ := hcd.frame
  have hen' : s'.sgEn = !s'.oEnN := by
    rw [hsg, hen]
    exact congrArg (fun l => !l.enN) hlines.symm
  refine EffectiveSince.from_same (t := s') ?_ hlines hhist
  rw [tickBody, heq, Run.ret_bind]
  split
  · exact tickHoming_effectiveSince hen'
  · split
    · exact tickMove_effectiveSince hen' _
    · exact effectiveSince_of_hist rfl

theorem limitEdgeBody_effectiveSince (hen : s.sgEn = !s.oEnN) : EffectiveSince s (limitEdgeBody s).st := by
  refine Run.bind_keeps ?move fun _ _ ht => dispUpdate_effectiveSince _ (ht.of_hist rfl)
  unfold limitMove
  split
  · exact sgRotate_effectiveSince hen _ _
  · exact effectiveSince_of_hist rfl

/-- LIMIT_EDGE that answers a next state has the sensor and has run its body (R100, R160). -/
theorem exec_limitEdge_next (he : exec .limitEdge s = .next t) :
    s.cfg.hasLimit = true ∧ (limitEdgeBody s).st = t := by
  cases hlim : s.cfg.hasLimit with
  | false =>
    rw [exec_limitEdge_without_sensor hlim] at he
    cases he
  | true =>
    rw [exec_limitEdge_with_sensor hlim] at he
    exact ⟨rfl, (runIf_next.1 he).2⟩

theorem exec_effectiveSince (hen : s.sgEn = !s.oEnN) (he : exec i s = .next t) : EffectiveSince s t := by
  by_cases hi : Rotates i
  case neg => exact (keeps_effectiveSince hi s).exec he (effectiveSince_of_hist rfl)
  case pos =>
    rcases hi with rfl | rfl | ⟨d, steps, rfl⟩
    · obtain ⟨-, rfl⟩ := runIf_next.1 he
      exact tickBody_effectiveSince hen
    · obtain ⟨-, rfl⟩ := exec_limitEdge_next he
      exact limitEdgeBody_effectiveSince hen
    · obtain ⟨-, rfl⟩ := runIf_next.1 he
      exact sgRotate_effectiveSince hen d steps

/-- Settles O15: the only pulses are those of SG.ROTATE, given with the driver enabled. -/
theorem everyPulseIsEffective : Obligations.EveryPulseIsEffective :=
  fun _ _ _ hen he => exec_effectiveSince hen he

end Sys2Proof.Machine
end

section
/-! PROOFS. Reset (70_reset_and_hazards.md R240, R241): O46 to O48. -/

namespace Sys2Proof.Machine

open Sys2Proof

/-- Settles O46: reset writes these values down. -/
theorem resetValues : Obligations.ResetValues := by
  refine ⟨rfl, fun c s hs => ?_⟩
  subst hs
  exact ⟨rfl, rfl, rfl, rfl, rfl, rfl, rfl, rfl, rfl, rfl, rfl, rfl, rfl, rfl, rfl⟩

theorem exec_construct_legal {s : State} (hm : s.masked = true) (hc : s.ctx = .reset) :
    exec .construct s = .next (constructBody s).st :=
  runIf_legal (legal := Instr.require s .construct) (Instr.require_construct_iff.2 ⟨hm, hc⟩)

/-- With an empty port in RESET the step presents and serves CONSTRUCT (R241). -/
theorem step_of_reset {s u : State} (hc : s.ctx = .reset) (hp : s.port = [])
    (he : exec .construct (s.setPort []) = .next u) : step s = .next u.settled := by
  have hpres : s.presented = s.setPort [0x42#8] := by
    rw [State.presented_of_empty hp, State.present, hc]
  have hexec : exec .construct (s.presented.setPort []) = .next u := by
    rw [hpres]
    exact he
  rw [step_of_decode (i := .construct) (rest := []) (.inl (by simp [hc])) (by rw [hpres]; rfl), hexec]
  rfl

/-- Settles O47: the `require` of CONSTRUCT is the mask and context of reset. -/
theorem firstStepIsConstruct : Obligations.FirstStepIsConstruct := by
  intro c
  have he := exec_construct_legal (s := State.resetWith c) rfl rfl
  exact ⟨_, he, step_of_reset rfl rfl he⟩

/-- Settles O48: right after reset nothing runs yet, and every register is 0 or None. -/
theorem invariantHoldsAtReset : Obligations.InvariantHoldsAtReset := fun c =>
  { port := rfl
    masked := by simp [State.resetWith]
    tgt := Nat.le_refl 0
    cur := fun _ hcur => nomatch hcur
    fault := fun _ => rfl
    latched := fun hx => nomatch hx
    driver := fun _ => ⟨rfl, rfl, rfl⟩
    asReset := fun _ => ⟨rfl, rfl, ⟨rfl, rfl⟩, rfl, rfl, rfl, ⟨rfl, rfl⟩, rfl⟩
    built := fun hx => absurd rfl hx
    noLimit := fun _ => ⟨BitVec.getLsbD_zero, fun hx => nomatch hx⟩
    qdPend := fun _ => rfl
    cdV := fun _ => rfl
    disp := fun _ hdisp => nomatch hdisp }

end Sys2Proof.Machine
end

section
/-! PROOFS. The invariant of the block (70_reset_and_hazards.md R250): O49. Its part about the data registers is kept by
every access, hence by every body; its part about the driver by a whole train; its part about mask, context and port by
what a step serves in each context. -/

namespace Sys2Proof.Machine

open Sys2Proof

variable {α : Type} {c : Cfg} {i : Instr} {m : Word} {mode : MicrostepMode} {s t u : State}

/-! ### What the configuration checks say of the heights (R184) -/

/-- With no failing check, MAXH and the three configured heights are in range. -/
theorem heights_of_no_failingCheck (h : failingCheck c = none) :
    maxSteps c < 2 ^ 32 ∧ c.initTgt.toNat ≤ maxSteps c ∧ c.homeOfs.toNat ≤ maxSteps c ∧
      (c.hasLimit = true → c.limitOfs.toNat ≤ maxSteps c) := by
  have hpass : ∀ k, 1 ≤ k → k ≤ 9 → ¬checkFails c k = true := fun k h1 h9 =>
    Bool.eq_false_iff.1 (failingCheck_eq_none_iff.1 h k h1 h9)
  obtain ⟨h3, -⟩ := checkFails_range_iff c
  obtain ⟨h5, h6, h7⟩ := checkFails_above_iff c
  refine ⟨Nat.lt_of_not_le fun hle => hpass 3 (by decide) (by decide) (h3.2 hle),
    Nat.le_of_not_lt fun hlt => hpass 5 (by decide) (by decide) (h5.2 hlt),
    Nat.le_of_not_lt fun hlt => hpass 6 (by decide) (by decide) (h6.2 hlt),
    fun hlim => Nat.le_of_not_lt fun hlt => hpass 7 (by decide) (by decide) (h7.2 ⟨hlim, hlt⟩)⟩

/-! ### The data registers -/

/-- In a block with configuration `c` and MAXH `m` the data registers, the limit latch and the display hold values in
their ranges (R21 to R24, R29, R33). -/
structure State.Bounded (c : Cfg) (m : Word) (s : State) : Prop where
  cfg : s.cfg = c
  maxh : s.maxh = m
  tgt : s.tgt.toNat ≤ m.toNat
  cur : ∀ h, s.cur = some h → h.toNat ≤ m.toNat
  ip : c.hasLimit = false → s.ip.getLsbD 2 = false
  qdPend : c.qdPolicy = .immediateLevel → s.qdPend = .none
  cdV : c.deb = .tickCounter → s.cdV = false
  disp : ∀ mm, s.disp = .frame (.height mm) → mm.toNat ≤ 99

/-- No transition is sensed as the limit source without the sensor (R210). -/
theorem hasLimit_of_sensedBy {p : InPin} {new : Bool} (h : sensedBy c p new = some .limit) : c.hasLimit = true := by
  cases p with
  | encA => simp [sensedBy_encA_iff] at h
  | encB => cases h
  | home => simp [sensedBy_home_iff] at h
  | limit =>
    obtain ⟨-, hlim, -⟩ := (sensedBy_limit_iff c new).1 h
    exact hlim

theorem Pins.move_keeps_no_limit (hc : c.hasLimit = false) (armed : Bool) {x : Pins} (mv : PinMove)
    (h : x.ip.getLsbD 2 = false) : (x.move c armed mv).ip.getLsbD 2 = false := by
  unfold Pins.move
  split
  · exact h
  · cases armed with
    | false => exact h
    | true =>
      have hbit := getLsbD_latchEdge c x.ip mv .limit
      have hnone : sensedBy c mv.pin mv.level ≠ some .limit := fun hs => by simp [hasLimit_of_sensedBy hs] at hc
      rw [decide_eq_false hnone, Bool.or_false] at hbit
      exact hbit.trans h

/-- Without the sensor the limit latch stays clear as time passes (R29). -/
theorem State.pass_no_limit (hc : s.cfg.hasLimit = false) (h : s.ip.getLsbD 2 = false) :
    s.pass.ip.getLsbD 2 = false := by
  have hfold : ∀ (ms : List PinMove) (x : Pins), x.ip.getLsbD 2 = false →
      (ms.foldl (Pins.move s.cfg s.armed) x).ip.getLsbD 2 = false := by
    intro ms
    induction ms with
    | nil => exact fun _ hx => hx
    | cons mv ms ih => exact fun x hx => ih _ (Pins.move_keeps_no_limit hc s.armed mv hx)
  exact hfold _ _ h

/-- The display's field has two digits (R33). -/
theorem shownFrame_height_le {f : Frame} {mm : Word} (h : shownFrame f = .height mm) : mm.toNat ≤ 99 := by
  cases f with
  | welcome | calibrating => cases h
  | height v =>
    obtain rfl := Frame.height.inj h
    split
    case isTrue hfit => exact fitsDisplay_iff.1 hfit
    case isFalse =>
      rw [BitVec.toNat_umod]
      exact Nat.le_of_lt_succ (Nat.mod_lt _ (by decide))

theorem accessStable_bounded (c : Cfg) (m : Word) : AccessStable (State.Bounded c m) where
  pass s h := { h with ip := fun hlim => State.pass_no_limit (h.cfg ▸ hlim) (h.ip hlim) }
  fault s f h := { h with }
  line s p b h := by
    refine ⟨?_, ?_, ?_, ?_, ?_, ?_, ?_, ?_⟩ <;> simp
    exacts [h.cfg, h.maxh, h.tgt, h.cur, h.ip, h.qdPend, h.cdV, h.disp]
  frame s f h := { h with disp := fun mm hd => shownFrame_height_le (Disp.frame.inj hd) }
  enabled s b h := { h with }

namespace State.Bounded

theorem setCur (h : s.Bounded c m) {v : Option Word} (hv : ∀ x, v = some x → x.toNat ≤ m.toNat) :
    (s.setCur v).Bounded c m :=
  { h with cur := hv }

theorem setTgt (h : s.Bounded c m) {v : Word} (hv : v.toNat ≤ m.toNat) : (s.setTgt v).Bounded c m :=
  { h with tgt := hv }

theorem latchRotation (h : s.Bounded c m) (r : Rotation) : (s.latchRotation r).Bounded c m := by
  unfold State.latchRotation
  split
  case h_1 hp => exact { h with qdPend := fun hc => by simp [h.cfg, hc] at hp }
  case h_2 => exact h

theorem qdUpdate (h : s.Bounded c m) : (qdUpdate s).st.Bounded c m :=
  (accessStable_bounded c m).qdUpdate (fun _ r hs => hs.latchRotation r) h

theorem openCooldown (h : s.Bounded c m) : (openCooldown s).st.Bounded c m := by
  unfold Machine.openCooldown
  split
  case h_1 => exact { h with }
  case h_2 hd =>
    have hp := (accessStable_bounded c m).pass s h
    exact { hp with cdV := fun hc => by simp [h.cfg, hc] at hd }

theorem cooldownStep (h : s.Bounded c m) {b : Bool} (hcd : CooldownStep s t b) : t.Bounded c m := by
  have hp := (accessStable_bounded c m).pass s h
  cases hcd with
  | counted => exact { h with }
  | idleCounter | idleClock => exact h
  | expired => exact { hp with cdV := fun _ => rfl }
  | open_ => exact hp

/-! ### The bodies keep the ranges -/

theorem tickHoming (h : s.Bounded c m) (hofs : c.homeOfs.toNat ≤ m.toNat) : (tickHoming s).st.Bounded c m := by
  have hA := accessStable_bounded c m
  refine Run.bind_keeps (hA.sgRotate _ _ h) fun _ t ht => Run.bind_keeps (hA.pinRead _ ht) fun _ u hu => ?_
  split
  · exact hA.dispUpdate _ (hu.setCur fun x hx => by rwa [← Option.some.inj hx, hu.cfg])
  · exact hu

/-- A move ends between the height it began at and the target (R152). -/
theorem tickMove (h : s.Bounded c m) {x : Word} (hx : x.toNat ≤ m.toNat) : (tickMove x s).st.Bounded c m := by
  rw [tickMove_eq]
  refine Run.bind_keeps ((accessStable_bounded c m).sgRotate _ _ h) fun _ t ht => ht.setCur fun y hy => ?_
  obtain ⟨-, hle⟩ := movedHeight_between s.cfg.spt x s.tgt
  rw [← Option.some.inj hy]
  exact hle.trans (Nat.max_le.2 ⟨hx, h.tgt⟩)

theorem tickBody (h : s.Bounded c m) (hofs : c.homeOfs.toNat ≤ m.toNat) : (tickBody s).st.Bounded c m := by
  obtain ⟨s', b, hcd, heq⟩ := cooldownTest_ret s
  have h' := h.cooldownStep hcd
  rw [Machine.tickBody, heq, Run.ret_bind]
  split
  · exact h'.tickHoming hofs
  case h_2 x hx =>
    split
    · exact h'.tickMove (h'.cur x hx)
    · exact h'

/-- Neither direction of a rotation takes the target out of its range (R150, R151). -/
theorem turn (h : s.Bounded c m) {r : Rotation} (hr : r ≠ .none) : (turn r s).st.Bounded c m := by
  have hturned : (turnedTarget r s).toNat ≤ m.toNat := by
    have htgt := h.tgt
    rw [turnedTarget_toNat hr (h.maxh.symm ▸ htgt), h.maxh]
    split <;> omega
  refine Run.bind_keeps (h.setTgt hturned).openCooldown fun _ t ht => ?_
  split
  · exact (accessStable_bounded c m).dispUpdate _ ht
  · exact ht

theorem encEdgeBody (h : s.Bounded c m) : (encEdgeBody s).st.Bounded c m := by
  refine Run.bind_keeps h.qdUpdate fun r t ht => ?_
  cases r with
  | none => exact ht
  | cw | ccw => exact ht.turn nofun

theorem homeEdgeBody (h : s.Bounded c m) : (homeEdgeBody s).st.Bounded c m :=
  (accessStable_bounded c m).homeEdgeBody (fun _ hs => hs.setCur nofun) h

theorem limitEdgeBody (h : s.Bounded c m) (hofs : c.limitOfs.toNat ≤ m.toNat) : (limitEdgeBody s).st.Bounded c m := by
  refine (accessStable_bounded c m).limitEdgeBody (fun u hu => ?_) h
  have hle : u.cfg.limitOfs.toNat ≤ m.toNat := by rwa [hu.cfg]
  exact (hu.setCur fun x hx => by rwa [← Option.some.inj hx]).setTgt hle

/-- The registers CONSTRUCT writes are in the range it derives (R182, R184). -/
theorem initRegisters (h : s.Bounded c m) (hc : failingCheck c = none) :
    s.initRegisters.Bounded c (BitVec.ofNat 32 (maxSteps c)) := by
  obtain ⟨hmax, hinit, -⟩ := heights_of_no_failingCheck hc
  refine { h with
    maxh := by rw [initRegisters_maxh, h.cfg]
    tgt := ?_
    cur := nofun
    qdPend := fun _ => rfl
    cdV := fun _ => rfl }
  rw [initRegisters_tgt, h.cfg, BitVec.toNat_ofNat, Nat.mod_eq_of_lt hmax]
  exact hinit

theorem openForeground (h : s.Bounded c m) : s.openForeground.Bounded c m :=
  { h with ip := fun _ => BitVec.getLsbD_zero }

theorem constructBody (h : s.Bounded c m) (hc : failingCheck c = none) :
    (constructBody s).st.Bounded c (BitVec.ofNat 32 (maxSteps c)) := by
  have hA := accessStable_bounded c (BitVec.ofNat 32 (maxSteps c))
  obtain rfl := h.cfg
  obtain ⟨mode, hmode⟩ := mode_of_no_failingCheck hc
  rw [constructBody_checked hc hmode]
  exact Run.bind_keeps (hA.sgSetMode _ (h.initRegisters hc)) fun _ t ht =>
    Run.bind_keeps (hA.dispUpdate _ ht) fun _ _ hu => hu.openForeground

end State.Bounded

/-! ### The driver (R250 (d)) -/

/-- Between bodies the motor is at rest: STEP low, the driver disabled, flag and line agreeing. -/
abbrev State.AtRest (s : State) : Prop :=
  s.oStep = false ∧ s.sgEn = false ∧ s.oEnN = true

/-- Unless a fault has halted the block, the motor is at rest. -/
def State.RestsUnlessHalted (s : State) : Prop :=
  s.ctx ≠ .halted → s.AtRest

theorem raise_restsUnlessHalted (f : BlockFault) (s : State) : (raise f s : Run α).st.RestsUnlessHalted :=
  fun hx => absurd rfl hx

/-- A train ends with STEP low and disables the driver that it enabled (R135, R138). -/
theorem sgRotate_restsUnlessHalted (h : s.RestsUnlessHalted) (d : Bool) (steps : Word) :
    (sgRotate d steps s).st.RestsUnlessHalted := by
  rcases sgRotate_cases d steps s with ⟨-, hr⟩ | ⟨k, w, -, -, -, -, hr⟩ <;> rw [hr]
  · intro hx
    obtain ⟨hstep, hen, hline⟩ := h (by simpa using hx)
    refine ⟨?_, (s.passes_sgEn _).trans hen, by simp [State.rotated, hen]⟩
    simp [State.rotated, hstep]
  · exact raise_restsUnlessHalted _ _

theorem pinRead_restsUnlessHalted (h : s.RestsUnlessHalted) (p : InPin) : (pinRead p s).st.RestsUnlessHalted := by
  cases hg : s.granted with
  | true => rw [pinRead_granted p hg]; exact h
  | false => rw [pinRead_failed p hg]; exact raise_restsUnlessHalted _ _

theorem dispUpdate_restsUnlessHalted (h : s.RestsUnlessHalted) (f : Frame) :
    (dispUpdate f s).st.RestsUnlessHalted := by
  unfold dispUpdate
  cases hg : s.granted with
  | true => rw [dispWrite_granted f hg]; exact h
  | false => rw [dispWrite_failed f hg]; exact raise_restsUnlessHalted _ _

theorem tickHoming_restsUnlessHalted (h : s.RestsUnlessHalted) : (tickHoming s).st.RestsUnlessHalted := by
  refine Run.bind_keeps (sgRotate_restsUnlessHalted h _ _) fun _ t ht =>
    Run.bind_keeps (pinRead_restsUnlessHalted ht _) fun _ u hu => ?_
  split
  · exact dispUpdate_restsUnlessHalted (s := u.setCur (some _)) hu _
  · exact hu

theorem tickMove_restsUnlessHalted (h : s.RestsUnlessHalted) (x : Word) :
    (tickMove x s).st.RestsUnlessHalted := by
  rw [tickMove_eq]
  exact Run.bind_keeps (P := State.RestsUnlessHalted) (sgRotate_restsUnlessHalted h _ _) fun _ _ ht => ht

theorem tickBody_restsUnlessHalted (h : s.RestsUnlessHalted) : (tickBody s).st.RestsUnlessHalted := by
  obtain ⟨s', b, hcd, heq⟩ := cooldownTest_ret s
  have h' : s'.RestsUnlessHalted := by cases hcd <;> exact h
  rw [tickBody, heq, Run.ret_bind]
  split
  · exact tickHoming_restsUnlessHalted h'
  · split
    · exact tickMove_restsUnlessHalted h' _
    · exact h'

theorem limitEdgeBody_restsUnlessHalted (h : s.RestsUnlessHalted) : (limitEdgeBody s).st.RestsUnlessHalted := by
  refine Run.bind_keeps (P := State.RestsUnlessHalted) ?move fun _ t ht =>
    dispUpdate_restsUnlessHalted (s := t.atLimit) ht _
  unfold limitMove
  split
  · exact sgRotate_restsUnlessHalted h _ _
  · exact h

/-! ### The four bodies as operations (R157 to R160) -/

/-- The operations that the foreground and the arbiter request between CS.ENTER and CS.EXIT (R104). -/
def Instr.IsBody (i : Instr) : Prop :=
  i = .tick ∨ i = .encEdge ∨ i = .homeEdge ∨ i = .limitEdge

/-- A body is none of the operations that write mask, configuration or mode lines. -/
theorem Instr.IsBody.ne_system (h : Instr.IsBody i) :
    i ≠ .csEnter ∧ i ≠ .csExit ∧ i ≠ .construct ∧ ¬SetsMode i := by
  rcases h with rfl | rfl | rfl | rfl <;> simp [SetsMode]

theorem exec_body_bounded (hb : Instr.IsBody i) (h : s.Bounded c m) (hhome : c.homeOfs.toNat ≤ m.toNat)
    (hlimit : c.hasLimit = true → c.limitOfs.toNat ≤ m.toNat) (he : exec i s = .next t) : t.Bounded c m := by
  rcases hb with rfl | rfl | rfl | rfl
  · obtain ⟨-, rfl⟩ := runIf_next.1 he
    exact h.tickBody hhome
  · obtain ⟨-, rfl⟩ := runIf_next.1 he
    exact h.encEdgeBody
  · obtain ⟨-, rfl⟩ := runIf_next.1 he
    exact h.homeEdgeBody
  · obtain ⟨hlim, rfl⟩ := exec_limitEdge_next he
    exact h.limitEdgeBody (hlimit (h.cfg ▸ hlim))

/-- TICK and LIMIT_EDGE make whole trains; the other two bodies do not touch the driver. -/
theorem exec_body_restsUnlessHalted (hb : Instr.IsBody i) (h : s.AtRest) (he : exec i s = .next t) :
    t.RestsUnlessHalted := by
  have hs : s.RestsUnlessHalted := fun _ => h
  have hidle : ¬Drives i → i ≠ .construct → t.AtRest := fun hd hc => by
    obtain ⟨hstep, -⟩ := exec_stepDir he fun hr => hd (.inl hr)
    rwa [State.AtRest, hstep, exec_sgEn he hd hc, exec_oEnN he hd]
  rcases hb with rfl | rfl | rfl | rfl
  · obtain ⟨-, rfl⟩ := runIf_next.1 he
    exact tickBody_restsUnlessHalted hs
  · exact fun _ => hidle (by simp [Drives, Rotates]) nofun
  · exact fun _ => hidle (by simp [Drives, Rotates]) nofun
  · obtain ⟨-, rfl⟩ := exec_limitEdge_next he
    exact limitEdgeBody_restsUnlessHalted hs

/-! ### The invariant without mask, context and port -/

/-- A block that CONSTRUCT has built and no fault has halted, whatever its mask, context and port. -/
structure State.Ready (s : State) : Prop where
  bounded : s.Bounded s.cfg s.maxh
  built : s.Built
  fault : s.fault = 0x00#8
  atRest : s.AtRest

namespace State

theorem Inv.bounded (h : s.Inv) : s.Bounded s.cfg s.maxh where
  cfg := rfl
  maxh := rfl
  tgt := h.tgt
  cur := h.cur
  ip hlim := (h.noLimit hlim).1
  qdPend := h.qdPend
  cdV := h.cdV
  disp := h.disp

theorem Inv.ready (h : s.Inv) (hr : s.ctx ≠ .reset) (hh : s.ctx ≠ .halted) : s.Ready :=
  ⟨h.bounded, h.built hr hh, h.fault hh, h.driver hh⟩

/-- Mask, context and port play no part in it, and of the pending latches only the one that has no source. -/
theorem Ready.control (h : s.Ready) {ip : BitVec 3} (hip : s.cfg.hasLimit = false → ip.getLsbD 2 = false)
    (masked : Bool) (ctx : Ctx) (port : List Byte) :
    ({ s with ip := ip, masked := masked, ctx := ctx, port := port } : State).Ready where
  bounded := { h.bounded with ip := hip }
  built := { h.built with }
  fault := h.fault
  atRest := h.atRest

theorem Ready.pass (h : s.Ready) : s.pass.Ready where
  bounded := (accessStable_bounded _ _).pass s h.bounded
  built := { h.built with }
  fault := h.fault
  atRest := h.atRest

/-- In a running block the invariant is this and what the context says of mask and port. -/
theorem Ready.inv (h : s.Ready) (hr : s.ctx ≠ .reset) (hh : s.ctx ≠ .halted) (hm : s.masked = true ↔ s.ctx ≠ .fgOpen)
    (hp : s.portInSequence) (hl : s.cfg.hasLimit = false → s.ctx ≠ .hLimit) : s.Inv where
  port := hp
  masked := hm
  tgt := h.bounded.tgt
  cur := h.bounded.cur
  fault _ := h.fault
  latched hx := absurd hx hh
  driver _ := h.atRest
  asReset hx := absurd hx hr
  built _ _ := h.built
  noLimit hlim := ⟨h.bounded.ip hlim, hl hlim⟩
  qdPend := h.bounded.qdPend
  cdV := h.bounded.cdV
  disp := h.bounded.disp

theorem ctx_of_isBody (hb : s.ctx.isBody = true) : s.ctx ≠ .reset ∧ s.ctx ≠ .fgOpen ∧ s.ctx ≠ .halted := by
  cases hx : s.ctx <;> simp [hx, Ctx.isBody] at hb ⊢

/-- In a body the mask is set. -/
theorem Ready.inv_in_body (h : s.Ready) (hb : s.ctx.isBody = true) (hm : s.masked = true) (hp : s.portInSequence)
    (hl : s.cfg.hasLimit = false → s.ctx ≠ .hLimit) : s.Inv :=
  have ⟨hreset, hopen, hhalted⟩ := ctx_of_isBody hb
  h.inv hreset hhalted (iff_of_true hm hopen) hp hl

/-- In a body the CS.EXIT may stand alone on the port. -/
theorem portInSequence_of_exit (hb : s.ctx.isBody = true) (hp : s.port = [0x41#8]) : s.portInSequence := by
  unfold portInSequence
  cases hx : s.ctx with
  | fgTick | hEnc | hHome | hLimit => exact .inr hp
  | reset | fgOpen | halted => rw [hx] at hb; cases hb

/-- In a body's context the port holds the body's own request and the CS.EXIT, or the CS.EXIT alone. -/
theorem portInSequence.of_body (h : s.portInSequence) (hb : s.ctx.isBody = true) :
    s.port = [0x41#8] ∨ ∃ i, Instr.IsBody i ∧ decode s.port = .op i [0x41#8] := by
  unfold portInSequence at h
  cases hx : s.ctx <;> rw [hx] at h hb
  case reset | fgOpen | halted => cases hb
  all_goals
    rcases h with hp | hp
    · rw [hp]
      refine .inr ⟨_, ?_, rfl⟩
      simp [Instr.IsBody]
    · exact .inl hp

/-- Between bodies nothing is on the port. -/
theorem portInSequence.of_no_body (h : s.portInSequence) (hb : s.ctx.isBody = false) : s.port = [] := by
  unfold portInSequence at h
  cases hx : s.ctx <;> rw [hx] at h hb
  case reset | fgOpen | halted => exact h
  all_goals cases hb

/-- In HALTED the data registers keep their ranges, and nothing is presented any more. -/
theorem Bounded.inv_of_halted (h : s.Bounded s.cfg s.maxh) (hx : s.ctx = .halted) (hm : s.masked = true)
    (hf : s.faultValid = true) (hp : s.port = []) : s.Inv where
  port := by rwa [portInSequence, hx]
  masked := by simp [hx, hm]
  tgt := h.tgt
  cur := h.cur
  fault hne := absurd hx hne
  latched _ := hf
  driver hne := absurd hx hne
  asReset hr := by simp [hx] at hr
  built _ hne := absurd hx hne
  noLimit hlim := ⟨h.ip hlim, by simp [hx]⟩
  qdPend := h.qdPend
  cdV := h.cdV
  disp := h.disp

end State

/-- A step whose operation halts the block ends with the invariant, if the ranges are kept. -/
theorem inv_settled_of_halted (he : exec i s = .next u) (h : u.Bounded c m) (hx : u.ctx = .halted) :
    u.settled.Inv := by
  obtain ⟨-, hm⟩ := exec_masked_of_halted he hx
  obtain ⟨-, hlatched⟩ := exec_latchSince he
  have hs : u.settled.Bounded c m := by
    rw [State.settled_of_halted hx]
    exact (accessStable_bounded c m).pass _ { h with }
  obtain rfl := hs.cfg
  obtain rfl := hs.maxh
  refine hs.inv_of_halted (by simpa using hx) (by simpa using hm) ?_ (by rw [State.settled_port, if_pos hx])
  rw [State.faultValid, State.settled_fault]
  exact hlatched hx

/-! ### Each step keeps the invariant -/

/-- A body with its CS.EXIT behind it: the block halts, or is ready again with the CS.EXIT left on the port. -/
theorem inv_of_body (hi : Instr.IsBody i) (h : s.Ready) (hb : s.ctx.isBody = true) (hm : s.masked = true)
    (hl : s.cfg.hasLimit = false → s.ctx ≠ .hLimit) (hp : s.port = [0x41#8]) (he : exec i s = .next u) :
    u.settled.Inv := by
  obtain ⟨hcse, hcsx, hcon, hmode⟩ := hi.ne_system
  obtain ⟨-, -, hhome, hlimit⟩ := heights_of_no_failingCheck h.built.checks
  rw [← h.built.maxh] at hhome hlimit
  have hbounded : u.Bounded s.cfg s.maxh := exec_body_bounded hi h.bounded hhome hlimit he
  by_cases hx : u.ctx = .halted
  · exact inv_settled_of_halted he hbounded hx
  have hctx : u.ctx = s.ctx := (exec_ctx he hcon).resolve_right hx
  have hready : u.Ready :=
    { bounded := by rwa [hbounded.cfg, hbounded.maxh]
      built :=
        { checks := by rw [hbounded.cfg]; exact h.built.checks
          maxh := by rw [hbounded.cfg, hbounded.maxh]; exact h.built.maxh
          mode := by rw [hbounded.cfg, exec_oMs he hmode]; exact h.built.mode }
      fault := (exec_fault he hx).trans h.fault
      atRest := exec_body_restsUnlessHalted hi h.atRest he hx }
  have hbody : u.pass.ctx.isBody = true := (congrArg Ctx.isBody hctx).trans hb
  rw [State.settled_of_running hx]
  refine hready.pass.inv_in_body hbody ((exec_masked he hcse hcsx hcon).trans hm)
    (State.portInSequence_of_exit hbody ((exec_port he).trans hp)) fun hlim => ?_
  rw [State.pass_cfg, hbounded.cfg] at hlim
  rw [State.pass_ctx, hctx]
  exact hl hlim

/-- The entry of a body: what its context says of the port is what was presented (R214, R217). -/
theorem inv_of_entry (h : s.Ready) {ip : BitVec 3} (hip : s.cfg.hasLimit = false → ip.getLsbD 2 = false) {ctx : Ctx}
    (hb : ctx.isBody = true) (hl : s.cfg.hasLimit = false → ctx ≠ .hLimit) {port : List Byte}
    (hp : ({ s with ip := ip, masked := true, ctx := ctx, port := port } : State).portInSequence) :
    ({ s with ip := ip, masked := true, ctx := ctx, port := port } : State).pass.Inv :=
  (h.control hip true ctx port).pass.inv_in_body hb rfl hp hl

theorem State.pendingBits_of_idle (h : ∀ n, s.isPending n = false) : s.pendingBits = 0#3 := by
  have hbits : ∀ b : BitVec 3, b.getLsbD 0 = false → b.getLsbD 1 = false → b.getLsbD 2 = false → b = 0#3 := by decide
  exact hbits _ (h .enc) (h .home) (h .limit)

/-- From the open foreground the step begins a tick or dispatches a pending source (R213, R214, R217). -/
theorem inv_of_foreground (h : s.Inv) (hc : s.ctx = .fgOpen) (hs : step s = .next t) : t.Inv := by
  have hm : s.masked = false := by simpa [hc] using h.masked
  have hp := h.port.of_no_body (by rw [hc]; rfl)
  have hready := h.ready (by simp [hc]) (by simp [hc])
  cases hchosen : s.chosen s.instant.choice with
  | none =>
    obtain ⟨htick, -⟩ := foregroundTicks
    rw [htick s hc hm hp (State.pendingBits_of_idle ((s.chosen_eq_none_iff _).1 hchosen))] at hs
    obtain rfl := Host.Outcome.next.inj hs
    exact inv_of_entry (ctx := .fgTick) hready hready.bounded.ip rfl (fun _ => nofun) (.inl rfl)
  | some n =>
    obtain ⟨hdispatch, -⟩ := dispatchEntersHandler s n hc hm hp hchosen
    rw [hdispatch] at hs
    obtain rfl := Host.Outcome.next.inj hs
    refine inv_of_entry hready (fun hlim => ?latch) ?body (fun hlim hx => ?sensor) ?port
    case latch => rw [BitVec.getLsbD_and, hready.bounded.ip hlim, Bool.false_and]
    case body => cases n <;> rfl
    case sensor =>
      have hn := State.isPending_of_chosen hchosen
      cases n with
      | enc | home => cases hx
      | limit => simp [State.isPending, State.pendingBits, hlim, Source.index] at hn
    case port => cases n <;> exact .inl rfl

/-- CONSTRUCT that does not halt the block has driven the mode lines, shown Welcome and opened the foreground (R182). -/
theorem constructBody_opens (hc : failingCheck s.cfg = none) (hmode : modeOfCode s.cfg.mode = some mode)
    (hx : (constructBody s).st.ctx ≠ .halted) :
    (constructBody s).st = ((s.initRegisters.modeDriven (modeLevels s.cfg mode) (modeAccesses s.cfg)
      (modeAccesses s.cfg)).shown .welcome).openForeground := by
  rw [constructBody_checked hc hmode] at hx ⊢
  rcases sgSetMode_cases mode s.initRegisters with ⟨-, hr⟩ | ⟨k, -, -, -, hr⟩
  · rw [hr, Run.ret_bind, dispUpdate] at hx ⊢
    generalize hu : State.modeDriven _ _ _ _ = u at hx ⊢
    cases hg : u.granted with
    | true => rw [dispWrite_granted .welcome hg, ← hu]; rfl
    | false =>
      rw [dispWrite_failed .welcome hg] at hx
      exact absurd rfl hx
  · rw [hr] at hx
    exact absurd rfl hx

/-- The block that CONSTRUCT leaves running is ready. -/
theorem ready_of_construct (h : s.Inv) (hr : s.ctx = .reset) (hc : failingCheck s.cfg = none)
    (hx : (constructBody s).st.ctx ≠ .halted) : (constructBody s).st.Ready := by
  have hbounded := h.bounded.constructBody hc
  obtain ⟨mode, hmode⟩ := mode_of_no_failingCheck hc
  obtain ⟨hmax, -⟩ := heights_of_no_failingCheck hc
  obtain ⟨-, hms⟩ := (h.asReset hr).lines
  obtain ⟨hstep, -, hline⟩ := h.driver (by simp [hr])
  have hopens := constructBody_opens hc hmode hx
  refine ⟨by rwa [hbounded.cfg, hbounded.maxh], ⟨by rwa [hbounded.cfg], ?_, mode, by rwa [hbounded.cfg], ?_⟩,
    (constructBody_fault s hx).trans (h.fault (by simp [hr])), ?_⟩
  · rw [hbounded.cfg, hbounded.maxh, BitVec.toNat_ofNat, Nat.mod_eq_of_lt hmax]
  · rw [hbounded.cfg, hopens, ← hms]
    rfl
  · rw [hopens]
    simp [State.AtRest, State.shown, State.modeDriven, hstep, hline]

/-- The first step builds the block or halts it (R182, R205). -/
theorem inv_of_construct (h : s.Inv) (hc : s.ctx = .reset) (hs : step s = .next t) : t.Inv := by
  have hm : s.masked = true := h.masked.2 (by simp [hc])
  have hp := h.port.of_no_body (by rw [hc]; rfl)
  have he := exec_construct_legal hm hc
  have hport : s.setPort [] = s := by rw [← hp]; rfl
  rw [step_of_reset hc hp (by rwa [hport])] at hs
  obtain rfl := Host.Outcome.next.inj hs
  cases hcheck : failingCheck s.cfg with
  | some k =>
    have hraise := constructBody_check_failed hcheck
    refine inv_settled_of_halted (c := s.cfg) (m := s.maxh) he ?_ (by rw [hraise]; rfl)
    rw [hraise]
    exact (accessStable_bounded _ _).fault _ _ h.bounded
  | none =>
    rcases constructBody_ends s with ⟨hopen, hmask⟩ | ⟨hx, -⟩
    · have hx : (constructBody s).st.ctx ≠ .halted := by simp [hopen]
      have hport : (constructBody s).st.port = [] := (exec_port he).trans hp
      rw [State.settled_of_running hx]
      exact (ready_of_construct h hc hcheck hx).pass.inv (by simp [hopen]) (by simp [hopen]) (by simp [hopen, hmask])
        (by simp [State.portInSequence, hopen, hport]) (by simp [hopen])
    · exact inv_settled_of_halted he (h.bounded.constructBody hcheck) hx

/-- A body's CS.EXIT opens the foreground (R215, R217). -/
theorem inv_of_exit (h : s.Ready) (hb : s.ctx.isBody = true) (hm : s.masked = true) (hp : s.port = [0x41#8])
    (hs : step s = .next t) : t.Inv := by
  rw [step_leaves_body hb hm (.inl hp)] at hs
  obtain rfl := Host.Outcome.next.inj hs
  exact (h.control h.bounded.ip false .fgOpen []).pass.inv nofun nofun (by simp) rfl (fun _ => nofun)

/-- In a body the step serves the body or its CS.EXIT. -/
theorem inv_of_in_body (h : s.Inv) (hb : s.ctx.isBody = true) (hs : step s = .next t) : t.Inv := by
  obtain ⟨hreset, hopen, hhalted⟩ := State.ctx_of_isBody hb
  have hm : s.masked = true := h.masked.2 hopen
  have hready := h.ready hreset hhalted
  rcases h.port.of_body hb with hp | ⟨i, hi, hd⟩
  · exact inv_of_exit hready hb hm hp hs
  · obtain ⟨hcse, hcsx, -⟩ := hi.ne_system
    have hp : s.port ≠ [] := fun hp => by rw [hp] at hd; cases hd
    obtain ⟨j, rest, u, hd', he, rfl⟩ := step_next hs
    rw [State.presented_of_request hp] at hd' he
    obtain ⟨rfl, rfl⟩ := Decoded.op.inj (hd'.symm.trans hd)
    rw [State.accompany_other hcse hcsx]
    exact inv_of_body hi (s := s.setPort [0x41#8]) (hready.control hready.bounded.ip _ _ _) hb hm
      (fun hlim => (h.noLimit hlim).2) rfl he

/-- Settles O49, context by context: CONSTRUCT in RESET, an entry in FG_OPEN, the body or its end in a body, and no step
in HALTED. -/
theorem stepKeepsInvariant : Obligations.StepKeepsInvariant := by
  intro s t h hs
  cases hx : s.ctx with
  | reset => exact inv_of_construct h hx hs
  | fgOpen => exact inv_of_foreground h hx hs
  | fgTick | hEnc | hHome | hLimit => exact inv_of_in_body h (by rw [hx]; rfl) hs
  | halted =>
    rw [step, if_pos ⟨hx, h.port.of_no_body (by rw [hx]; rfl)⟩] at hs
    cases hs

end Sys2Proof.Machine
end
